-- ==== Sys2Proof/Word.lean ====
section
/-!
DEFINITION. The one word of the part: a byte, as it crosses the management port, the supervisory links, the
fabric port and the configuration bus. Ids, positions, spans, channels and delays are plain numbers inside the
part (spec 00_scope.md section 2); bytes appear only where a frame or an image is laid out (R162 to R170).
-/

namespace Sys2Proof

/-- One byte of a frame or an image, bit 7 the most significant (09_management_port.md section 9.9). -/
abbrev Byte := BitVec 8

end Sys2Proof
end

