-- ==== Sys2Proof/Syntax.lean ====
section
/-!
DEFINITION. The commands of the part: one constructor for each row of spec/opcode_table.json, with the row's
operands. A host request carries its BODY as the bytes shifted in (R165 to R167): the part sees nothing else of
it, and what a body of a wrong shape does is part of the request's meaning (R156). A ring notice carries the bytes
of the arriving frame (R164), and a window that is no good request its bytes (R152, R154, R155).
-/

namespace Sys2Proof

/-- The two sides of the part, and the link, Line Monitor and span of each (R6). -/
inductive Side where
  | east
  | west
deriving DecidableEq, Repr

/-- One command: one row of the table of operations and events (95_what_each_step_holds.md). -/
inductive Instr where
  /-- Power is applied (R185). -/
  | powerOnReset
  /-- The RESET input is asserted (R185). -/
  | pinReset
  /-- The RESET input is released, or power has settled (R185). -/
  | resetRelease
  /-- The configuration memory delivers the requested image byte (R179). -/
  | configByteRead (value : Byte)
  /-- The memory does not acknowledge, or CFG_SDA is held low (R179). -/
  | readFailed
  /-- A requested image byte is not delivered within 10 ms (R179). -/
  | configByteTimeout
  /-- The image buffer is tested (R180). -/
  | imageCheck
  /-- Request 01h (R157). -/
  | status (body : List Byte)
  /-- Request 10h (R27, R28). -/
  | add (body : List Byte)
  /-- Request 11h (R29, R30). -/
  | edit (body : List Byte)
  /-- Request 12h (R31). -/
  | retire (body : List Byte)
  /-- Request 13h (R33). -/
  | read (body : List Byte)
  /-- Request 14h (R34). -/
  | channelRead (body : List Byte)
  /-- Request 15h marked start (R36). -/
  | walkStart (body : List Byte)
  /-- Request 15h marked continue (R36). -/
  | walkContinue (body : List Byte)
  /-- Request 20h (R15). -/
  | spanRead (body : List Byte)
  /-- Request 21h (R12). -/
  | spanDelay (body : List Byte)
  /-- Request 30h with action 3 (R77). -/
  | operatorBar (body : List Byte)
  /-- Request 30h with action 2 (R78). -/
  | operatorForce (body : List Byte)
  /-- Request 30h with action 1 (R79). -/
  | operatorAsk (body : List Byte)
  /-- Request 30h with action 0 (R81). -/
  | release (body : List Byte)
  /-- Request 40h (R158). -/
  | settingsRead (body : List Byte)
  /-- Request 41h (R159). -/
  | settingsWrite (body : List Byte)
  /-- Request 42h with action 1 (R160). -/
  | freezeSet (body : List Byte)
  /-- Request 42h with action 0 (R160). -/
  | freezeClear (body : List Byte)
  /-- Request 50h (R181). -/
  | arm (body : List Byte)
  /-- Request 51h (R183, R184). -/
  | restart (body : List Byte)
  /-- Request 60h (R175). -/
  | faultRead (body : List Byte)
  /-- Request 61h (R176). -/
  | faultClear (body : List Byte)
  /-- A delivered frame that fails R155: the whole bytes shifted in, and how many bits followed the last of them. -/
  | badFrame (bytes : List Byte) (bits : Nat)
  /-- A good frame whose request code is undefined (R156). -/
  | unknownRequest (code : Byte) (body : List Byte)
  /-- A window whose MDI carries no request (R152). -/
  | emptyWindow
  /-- A window that opens while RDY is low: the whole bytes shifted in on MDI (R154). -/
  | overrun (mdi : List Byte)
  /-- The receiver lines of a side take new levels (R42). -/
  | receiverConditionChange (side : Side) (los lock : Bool) (grade : BitVec 4)
  /-- The DIM hold-off timer of a side expires (R45). -/
  | dimTimerExpiry (side : Side)
  /-- The DARK hold-off timer of a side expires (R46). -/
  | darkTimerExpiry (side : Side)
  /-- The clear soak timer of a side expires (R48). -/
  | soakExpiry (side : Side)
  /-- A notice period of 125 µs begins (R54). -/
  | noticePeriod
  /-- A frame arrives on a link: the bytes from its first 0 bit to the return of idle fill (R57, R164). -/
  | ringNotice (side : Side) (frame : List Byte)
  /-- The link-down timer of a link expires (R63). -/
  | linkDown (side : Side)
  /-- The settle timer of a side expires (R73). -/
  | settleTimerExpiry (side : Side)
  /-- The echo hold timer of a side expires (R84). -/
  | echoHoldExpiry (side : Side)
  /-- The answer timer of a side expires (R101). -/
  | answerTimerExpiry (side : Side)
  /-- The running sweep has taken the last record of channel 79 (R135, R138). -/
  | sweepCompletion
  /-- A DONE return arrives on FAB_DONE with the generation it carries (R146, R170). -/
  | fabDone (generation : BitVec 16)
  /-- The fabric timer expires (R147). -/
  | fabricTimeout
  /-- The FREEZE pin takes a level, true when asserted (R144). -/
  | freezePinChange (asserted : Bool)
deriving DecidableEq, Repr

end Sys2Proof
end

