-- ==== Sys2Proof/Decode.lean ====
section
/-!
DEFINITION. The reading of a table word. No row of spec/opcode_table.json gives bits: a command is a frame, an event or an
edge on a pin, and the layouts of R164 to R170 are read in Machine/Bytes.lean and Machine/Operands.lean (log entry 27).
-/

namespace Sys2Proof

/-- The command a word spells by the bits of the table: no row gives bits, so no word spells one. -/
def decodeTableWord (_nbits _w : Nat) : Option Instr := none

end Sys2Proof
end

