-- ==== Sys2Proof/Machine/Bytes.lean ====
section
/-!
DEFINITION. Bytes as they stand in frames and images: two-byte fields most significant byte first
(09_management_port.md section 9.9), the two check codes (R163), the checks of a delivered request frame (R152,
R155) and the framing of a notice frame (R164).
-/

namespace Sys2Proof.Machine

/-- The byte that holds the low eight bits of a number. -/
def byteOf (n : Nat) : Byte := BitVec.ofNat 8 n

/-- A two-byte field, most significant byte first (section 9.9). -/
def wordBytes (n : Nat) : List Byte := [byteOf (n / 256), byteOf n]

/-- The number in a two-byte field, most significant byte first (section 9.9). -/
def wordOf (high low : Byte) : Nat := high.toNat * 256 + low.toNat

/-- A flag as the number of its bit. -/
def flagBit (b : Bool) (weight : Nat) : Nat := if b then weight else 0

/-- Bit `k` of a byte. -/
def bitOf (b : Byte) (k : Nat) : Bool := b.toNat / 2 ^ k % 2 == 1

/-- An id byte read from bits 5..0, its top two bits disregarded (R162). -/
def idOfByte (b : Byte) : Nat := b.toNat % 64

/-- One bit of the CRC-8 register: generator x⁸ + x² + x + 1 (R163). -/
def crc8Bit (c : BitVec 8) : BitVec 8 := if c.msb then (c <<< 1) ^^^ 0x07#8 else c <<< 1

/-- One byte into the CRC-8 register, most significant bit first (R163). -/
def crc8Byte (c : BitVec 8) (b : Byte) : BitVec 8 :=
  crc8Bit (crc8Bit (crc8Bit (crc8Bit (crc8Bit (crc8Bit (crc8Bit (crc8Bit (c ^^^ b))))))))

/-- The CRC-8 of a management frame: register preset to 00h, no final inversion (R163). -/
def crc8 (bytes : List Byte) : Byte := bytes.foldl crc8Byte 0x00#8

/-- One bit of the CRC-16 register: generator x¹⁶ + x¹² + x⁵ + 1 (R163). -/
def crc16Bit (c : BitVec 16) : BitVec 16 := if c.msb then (c <<< 1) ^^^ 0x1021#16 else c <<< 1

/-- One byte into the CRC-16 register, most significant bit first (R163). -/
def crc16Byte (c : BitVec 16) (b : Byte) : BitVec 16 :=
  crc16Bit (crc16Bit (crc16Bit (crc16Bit (crc16Bit (crc16Bit (crc16Bit (crc16Bit
    (c ^^^ (b.setWidth 16 <<< 8)))))))))

/-- The CRC-16 of a notice frame and of the configuration image: register preset to FFFFh (R163). -/
def crc16 (bytes : List Byte) : Nat := (bytes.foldl crc16Byte 0xFFFF#16).toNat

/-- A window whose first byte on MDI is FFh, or that closes before one whole byte, is empty (R152). -/
def windowEmpty (bytes : List Byte) : Bool :=
  match bytes with
  | [] => true
  | first :: _ => first == 0xFF#8

/-- The greatest body length of a request frame (R155, R165). -/
def longestBody : Nat := 40

/-- A delivered request frame is bad (R155): L above 40, a window closed before L + 3 bytes or in the middle of a
byte, a byte after the CRC-8 byte that is not FFh, or a CRC-8 byte that does not match. -/
def frameBad (bytes : List Byte) (bits : Nat) : Bool :=
  match bytes with
  | code :: len :: rest =>
    decide (longestBody < len.toNat) || decide (bits ≠ 0) || decide (rest.length < len.toNat + 1)
      || (rest.drop (len.toNat + 1)).any (· != 0xFF#8)
      || rest.getD len.toNat 0 != crc8 (code :: len :: rest.take len.toNat)
  | _ => true

/-- The body of a good frame: the L bytes after the length byte (R165). -/
def frameBody (bytes : List Byte) : List Byte :=
  match bytes with
  | _ :: len :: rest => rest.take len.toNat
  | _ => []

/-- The request code of a frame: its first byte (R165). -/
def frameCode (bytes : List Byte) : Byte := bytes.headD 0x00#8

/-- The request codes that are defined (Table 42). -/
def requestCodes : List Nat :=
  [0x01, 0x10, 0x11, 0x12, 0x13, 0x14, 0x15, 0x20, 0x21, 0x30, 0x40, 0x41, 0x42, 0x50, 0x51, 0x60, 0x61]

/-- A notice frame as it arrives: seven bytes between its delimiters, idle fill after it (R164). -/
structure ArrivedFrame where
  first : Byte
  second : Byte
  third : Byte
  check : Nat
deriving DecidableEq, Repr

/-- The framing of R164: byte 0 is 4Eh, idle fill does not return before byte 6, byte 6 is 72h, and the byte after
byte 6 is idle fill. `none` is a FRAMING frame (R57). -/
def deframe (frame : List Byte) : Option ArrivedFrame :=
  match frame with
  | start :: b1 :: b2 :: b3 :: c1 :: c0 :: stop :: rest =>
    if start == 0x4E#8 && stop == 0x72#8 && rest.headD 0xFF#8 == 0xFF#8 then some ⟨b1, b2, b3, wordOf c1 c0⟩ else none
  | _ => none

end Sys2Proof.Machine
end

