-- ==== Sys2Proof/Config.lean ====
section
/-!
DEFINITION. What the spec leaves to the implementation: the ORDER in which events that reach different blocks at
one moment are taken (00_scope.md section 2.5, R63, R88, R92, R97), and how long the configuration bus takes from the
start of a load to the request for the first byte (R179; the clock rate is in the data sheet, 00_scope.md section
0.1). Each is a FREE VALUE of the model: `eventOrder` and `addressPeriods` have no body, so nothing can be proved of
what they give; a state may carry orders of its own in front of `eventOrder` (assumption log entries 5, 17 and 23).
-/

namespace Sys2Proof

/-- A block that takes a change of a standing notice: the Switch Protocol Unit, the Request Unit, or the Line
Monitor of the side when the link state changed with it (R61, R63, R64). -/
inductive Taker where
  | switchUnit
  | requestUnit
  | lineMonitor
deriving DecidableEq, Repr

/-- The six orders in which the three takers of a standing-notice change may take it (R63: "may be taken in any
order"; R92: "may be taken in either order"). -/
inductive TakingOrder where
  | switchRequestLine
  | switchLineRequest
  | requestSwitchLine
  | requestLineSwitch
  | lineSwitchRequest
  | lineRequestSwitch
deriving DecidableEq, Repr, Inhabited

/-- The order of one point of choice. Each point reads the one field that concerns it. -/
structure EventOrder where
  /-- A settled derivation reaches the Plan Engine before the Switch Protocol Unit (R88, R97). -/
  planFirst : Bool
  /-- Events of both sides at one moment are taken west side first (R49, R51). -/
  westFirst : Bool
  /-- The order in which a standing-notice change is taken (R61, R63, R64, R92). -/
  takers : TakingOrder
deriving DecidableEq, Repr, Inhabited

/-- The order taken at the n-th point of choice: free, whatever the implementation does there. -/
opaque eventOrder : Nat → EventOrder

/-- The notice periods from the start of a load to the request for image byte 0, by the moment the load starts: free
(R179, log entry 17). -/
opaque addressPeriods : Nat → Nat

end Sys2Proof
end

