-- ==== Sys2Proof/Machine/State.lean ====
section
/-!
DEFINITION. Everything the spec gives the part to hold, block by block (00_scope.md Table 1), as plain data, and
the value of each piece of it right after reset. What is formed again at every change from other state is not
held twice: ATTN (R174) and the gate (R144) are computed in Machine/Flags.lean, a channel chain and the id index
are read out of the one list of circuit records (R22, R23).
-/

namespace Sys2Proof.Machine

/-- Something held once for each side or link. -/
structure Pair (α : Type) where
  east : α
  west : α
deriving DecidableEq, Repr

/-- A timer: stopped, or running toward an expiry told in notice periods of 125 µs (00_scope.md section 2.5). -/
abbrev Timer := Option Nat

/-! ### Pins -/

/-- The receiver condition lines of one side (R42). -/
structure Receiver where
  los : Bool
  lock : Bool
  grade : BitVec 4
deriving DecidableEq, Repr

/-- The input lines taken as levels (R42, R144). -/
structure Pins where
  receivers : Pair Receiver
  freeze : Bool
deriving DecidableEq, Repr

/-! ### Identity Loader (chapter 11) -/

/-- The load state (Table 46), with `noLoad` for the time a power-on or pin reset lasts, when no load is in
progress (R185). -/
inductive LoadState where
  | noLoad
  | loading
  | checking
  | loaded
  | loadFailed
deriving DecidableEq, Repr

/-- What the part drives on CFG_SCL and CFG_SDA in the transaction of R179. -/
inductive BusItem where
  | start
  | device (address : BitVec 7) (read : Bool)
  | byteAddress (address : Byte)
  | acknowledge
  | noAcknowledge
  | stop
deriving DecidableEq, Repr

structure Loader where
  load : LoadState
  /-- The image bytes read so far, ascending from address 0 (R179). -/
  image : List Byte
  /-- The 10 ms in which the requested byte must be delivered (R179). -/
  byteTimer : Timer
  /-- What the part has driven on the configuration bus in the transaction of this load, up to the byte it waits for:
  the model's record of the lines (log entry 17). -/
  bus : List BusItem
  armed : Bool
deriving DecidableEq, Repr

/-! ### Ring Table (chapter 1) -/

/-- The ring-wide rule for protection partners (R8). -/
inductive MapStyle where
  | straight
  | crossed
deriving DecidableEq, Repr

/-- A ring (Table 5). The ring size is the length of the position table and the self id its first entry (R3). -/
structure Ring where
  ringTag : Nat
  style : MapStyle
  positions : List Nat
  delays : List Nat
  transit : Nat
deriving DecidableEq, Repr

/-! ### Settings (section 9.5) -/

/-- The settings that enter from the image, but for the node transit delay, which stands in the Ring Table. -/
structure Settings where
  holdOff : Nat
  clearSoak : Nat
  settle : Nat
  dimThreshold : Nat
deriving DecidableEq, Repr

/-! ### Circuit Table (chapter 2) -/

inductive Direction where
  | east
  | west
deriving DecidableEq, Repr

/-- The protection class; `prot` is PROTECTED (R16). -/
inductive CircuitClass where
  | prot
  | bare
  | extra
deriving DecidableEq, Repr

inductive LatePolicy where
  | restoreAnyway
  | squelchIfLate
deriving DecidableEq, Repr

/-- A circuit record (Table 10). -/
structure Circuit where
  id : Nat
  channel : Nat
  source : Nat
  destination : Nat
  direction : Direction
  cls : CircuitClass
  ceiling : Nat
  policy : LatePolicy
  label : Option (List Byte)
deriving DecidableEq, Repr

/-- The place of a walk (R35): START, a channel and start span, or END. -/
inductive Place where
  | start
  | mark (channel span : Nat)
  | finish
deriving DecidableEq, Repr

/-- The walk cursor (R35). -/
structure Cursor where
  lo : Nat
  hi : Nat
  wrap : Bool
  place : Place
  disturbed : Bool
deriving DecidableEq, Repr

/-- The records in chain order: by channel, and within a channel by start span (R23, R35). -/
structure CircuitTable where
  circuits : List Circuit
  cursor : Option Cursor
deriving DecidableEq, Repr

/-! ### Line Monitors (chapter 3) -/

inductive Level where
  | clear
  | dim
  | dark
deriving DecidableEq, Repr

structure Monitor where
  raw : Level
  declared : Level
  dimTimer : Timer
  darkTimer : Timer
  soakTimer : Timer
deriving DecidableEq, Repr

/-! ### Supervisory Link Ports (chapter 4) -/

/-- A request kind, ranked by its code (Table 22). -/
inductive Kind where
  | quiet
  | settle
  | ask
  | dim
  | dark
  | force
  | bar
deriving DecidableEq, Repr

/-- A side state (R53, chapter 6). -/
inductive SideState where
  | idle
  | bridged
  | switched
deriving DecidableEq, Repr

/-- The content of a ring notice (Table 18). -/
structure Notice where
  ringTag : Nat
  style : MapStyle
  kind : Kind
  state : SideState
  origin : Nat
  target : Nat
deriving DecidableEq, Repr

/-- A receive run that is not empty (R60). -/
structure Run where
  candidate : Notice
  count : Nat
deriving DecidableEq, Repr

inductive LinkState where
  | down
  | up
deriving DecidableEq, Repr

structure Port where
  transmit : Option Notice
  run : Option Run
  standing : Option Notice
  link : LinkState
  downTimer : Timer
  /-- The content of the frame sent in the current notice period, none for idle fill (R54). -/
  sent : Option Notice
deriving DecidableEq, Repr

/-! ### Request Unit (chapter 5) -/

inductive LinePart where
  | none
  | dim
  | dark
  | settle
deriving DecidableEq, Repr

inductive OperatorPart where
  | none
  | ask
  | force
  | bar
deriving DecidableEq, Repr

/-- A running echo hold (R84): its set-aside list and its timer. -/
structure EchoHold where
  links : List Side
  expiry : Nat
deriving DecidableEq, Repr

/-- The local request of a side (R70). -/
structure LocalRequest where
  line : LinePart
  operator : OperatorPart
  settleTimer : Timer
  echo : Option EchoHold
deriving DecidableEq, Repr

/-- A reporter entry (R82): a counted kind, none when set aside; a state, none for the local node. -/
structure Reporter where
  id : Nat
  kind : Option Kind
  state : Option SideState
deriving DecidableEq, Repr

/-- A span request record (R82). -/
structure SpanRecord where
  kind : Kind
  reporters : List Reporter
  dark : Bool
  served : Bool
deriving DecidableEq, Repr

/-- An entry of the served set (R86). -/
structure ServedEntry where
  span : Nat
  kind : Kind
deriving DecidableEq, Repr

/-- The node role (R89). -/
inductive Role where
  | idle
  | passing
  | barred
  | switchingEast
  | switchingWest
  | switchingBoth
deriving DecidableEq, Repr

/-- The Request Unit: the local requests, and the last settled derivation (R85), the served set in ascending order
of span. -/
structure RequestUnit where
  sides : Pair LocalRequest
  records : List SpanRecord
  served : List ServedEntry
  role : Role
deriving DecidableEq, Repr

/-! ### Switch Protocol Unit (chapter 6) -/

/-- The answer timer (R101). -/
inductive AnswerTimer where
  | stopped
  | running (expiry : Nat)
  | expired
deriving DecidableEq, Repr

/-- What the Switch Protocol Unit holds for one side and its link: the states, the answer timer, its copies of the
record of the side's span and of the link's standing notice, and the content it last wrote to the port. -/
structure SwitchSide where
  decided : SideState
  realised : SideState
  answer : AnswerTimer
  span : Option SpanRecord
  standing : Option Notice
  choice : Option Notice
deriving DecidableEq, Repr

structure SwitchUnit where
  sides : Pair SwitchSide
  served : List ServedEntry
  role : Role
deriving DecidableEq, Repr

/-! ### Plan Engine (chapters 7 and 8) -/

/-- The snapshot of a sweep (R134). -/
structure Snapshot where
  served : List ServedEntry
  knownDark : List Nat
  delays : List Nat
  transit : Nat
  decided : Pair SideState
deriving DecidableEq, Repr

structure Sweep where
  snapshot : Snapshot
  channel : Nat
deriving DecidableEq, Repr

inductive Reason where
  | islands
  | late
deriving DecidableEq, Repr

/-- The action of a circuit entry with the fields its action gives it (R117). -/
inductive Action where
  | carried
  | down
  | restored (hops latency : Nat) (late : Bool)
  | squelched (reason : Reason)
  | preempted
  | outside
deriving DecidableEq, Repr

structure PlanEntry where
  id : Nat
  action : Action
deriving DecidableEq, Repr

/-- An island (R114): the whole ring, with no ends, or an eastward arc from its west end to its east end. -/
inductive Island where
  | whole
  | arc (west east : Nat)
deriving DecidableEq, Repr

/-- The view (R116); `part` is PARTIAL. -/
inductive View where
  | full
  | part
deriving DecidableEq, Repr

/-- A plan (R111). -/
structure Plan where
  served : List ServedEntry
  knownDark : List Nat
  switched : List Nat
  islands : List Island
  localIsland : Island
  view : View
  entries : List PlanEntry
deriving DecidableEq, Repr

structure PlanEngine where
  sweep : Option Sweep
  restarts : Nat
  followUp : Bool
  committed : Option Plan
deriving DecidableEq, Repr

/-! ### Fabric Port (chapter 8) -/

/-- The source of a line entry (Table 34). -/
inductive Source where
  | idle
  | pass
  | addCircuit (circuit : Nat)
  | turn (channel : Nat)
  | squelch
deriving DecidableEq, Repr

/-- A drop entry (R139): an incoming side and channel, or NONE. -/
structure Drop where
  circuit : Nat
  source : Option (Side × Nat)
deriving DecidableEq, Repr

/-- A selector map (R139): 80 line entries for each outgoing side, the drop entries in ascending order of circuit
id (R170), the snapshot decided states, and the generation once its publication has started. -/
structure SelectorMap where
  lines : Pair (List Source)
  drops : List Drop
  decided : Pair SideState
  generation : Option Nat
deriving DecidableEq, Repr

/-- The committed map and its pending mark (R145). -/
structure CommittedMap where
  map : SelectorMap
  pending : Bool
deriving DecidableEq, Repr

/-- The publication in flight: its map, which holds its generation, and the fabric timer (R145). -/
structure InFlight where
  map : SelectorMap
  expiry : Nat
deriving DecidableEq, Repr

structure FabricPort where
  committed : Option CommittedMap
  inFlight : Option InFlight
  generation : Nat
  freezeFlag : Bool
  /-- What the last presentation put on FAB_DATA (R170): the model's record of the output lines. -/
  presented : Option SelectorMap
  /-- How many presentations there have been since reset: the model's record of the output lines. -/
  presentations : Nat
deriving DecidableEq, Repr

/-! ### Management Port (chapter 9) -/

/-- The answer codes (Table 38). -/
inductive AnswerCode where
  | done
  | busy
  | locked
  | absent
  | taken
  | clash
  | full
  | invalid
  | outranked
  | unknown
  | corrupt
  | notReady
deriving DecidableEq, Repr

/-- An answer frame before its length and CRC-8 bytes are set beside it (R165). -/
structure Answer where
  request : Byte
  code : AnswerCode
  body : List Byte
deriving DecidableEq, Repr

structure MgmtPort where
  requestSlot : Option Instr
  answerSlot : Option Answer
  rdy : Bool
  /-- The frame MDO carried in the last window, none for FFh throughout (R152): the model's record of the line. -/
  mdo : Option Answer
deriving DecidableEq, Repr

/-! ### Attention Unit (chapter 10) -/

inductive FaultGroup where
  | linkE
  | linkW
  | protocol
  | fabric
  | mgmt
  | load
deriving DecidableEq, Repr

/-- The fault kinds of Table 44; `imageCheck` is CHECK of the LOAD group. -/
inductive FaultKind where
  | framing
  | check
  | ringTag
  | mapStyle
  | unknownNode
  | malformed
  | down
  | noAnswer
  | restartLimit
  | timeout
  | overrun
  | badFrame
  | unknownRequest
  | readFailed
  | imageCheck
  | size
  | selfMissing
  | selfTwice
  | duplicateId
deriving DecidableEq, Repr

structure FaultRecord where
  kind : FaultKind
  detail : Nat
deriving DecidableEq, Repr

/-- One flag for each of the seven causes (Table 43): the cause flags, and the masks. -/
structure Causes where
  plan : Bool
  linkE : Bool
  linkW : Bool
  protocol : Bool
  fabric : Bool
  mgmt : Bool
  load : Bool
deriving DecidableEq, Repr

/-- One first-fault record for each fault group (R172). -/
structure FaultRecords where
  linkE : Option FaultRecord
  linkW : Option FaultRecord
  protocol : Option FaultRecord
  fabric : Option FaultRecord
  mgmt : Option FaultRecord
  load : Option FaultRecord
deriving DecidableEq, Repr

structure Attention where
  causes : Causes
  masks : Causes
  records : FaultRecords
  moreFaults : Bool
deriving DecidableEq, Repr

/-! ### The model's free choices -/

/-- The orders the next points of choice take, and how many points have been passed (log entry 5). -/
structure Choices where
  given : List EventOrder
  taken : Nat
deriving DecidableEq, Repr

/-! ### The whole part -/

/-- The state of the part, its pins, and the model's own clock, free choices and queue of waiting commands. -/
structure State where
  pins : Pins
  loader : Loader
  ring : Option Ring
  settings : Settings
  table : CircuitTable
  monitors : Pair Monitor
  ports : Pair Port
  requests : RequestUnit
  protocol : SwitchUnit
  plan : PlanEngine
  fabric : FabricPort
  mgmt : MgmtPort
  attention : Attention
  /-- The model's clock: notice periods begun (log entry 3). -/
  now : Nat
  /-- The model's free choices of an order (log entry 5). -/
  orders : Choices
  /-- The commands that wait, first in, first out. -/
  pending : List Instr
deriving DecidableEq, Repr

/-- Why the machine would stop with a fault. The spec stops the part nowhere: every command has an effect, or
leaves the state as it is, in every state (log entry 16). So the type has no constructor. -/
inductive Fault where
deriving DecidableEq, Repr

/-- Why a command has no meaning. -/
inductive Refusal where
  /-- Raised only by an arm of exec whose command has no meaning yet. No arm raises it. Safe: the run ends there. -/
  | notModelled (mnemonic : String)
deriving DecidableEq, Repr

/-! ### Reset values -/

/-- Log entry 2: the spec gives no reset level of an input line. -/
def Pins.atReset : Pins := { receivers := ⟨⟨false, false, 0⟩, ⟨false, false, 0⟩⟩, freeze := false }

/-- R185. -/
def Loader.atReset : Loader := { load := .noLoad, image := [], byteTimer := none, bus := [], armed := false }

/-- Table 16 and R75. -/
def Settings.atReset : Settings := { holdOff := 0, clearSoak := 10, settle := 300, dimThreshold := 6 }

/-- R41. -/
def CircuitTable.empty : CircuitTable := { circuits := [], cursor := none }

/-- R44, R52. -/
def Monitor.held : Monitor :=
  { raw := .clear, declared := .clear, dimTimer := none, darkTimer := none, soakTimer := none }

/-- R66. -/
def Port.silent : Port :=
  { transmit := none, run := none, standing := none, link := .down, downTimer := none, sent := none }

/-- R91. -/
def LocalRequest.idle : LocalRequest := { line := .none, operator := .none, settleTimer := none, echo := none }

/-- R91: no records exist while the Ring Table holds no ring. -/
def RequestUnit.held : RequestUnit :=
  { sides := ⟨LocalRequest.idle, LocalRequest.idle⟩, records := [], served := [], role := .idle }

/-- R110. -/
def SwitchSide.held : SwitchSide :=
  { decided := .idle, realised := .idle, answer := .stopped, span := none, standing := none, choice := none }

/-- R110. -/
def SwitchUnit.held : SwitchUnit := { sides := ⟨SwitchSide.held, SwitchSide.held⟩, served := [], role := .idle }

/-- R131, R150. -/
def PlanEngine.idle : PlanEngine := { sweep := none, restarts := 0, followUp := false, committed := none }

/-- R150. -/
def FabricPort.atReset : FabricPort :=
  { committed := none, inFlight := none, generation := 0, freezeFlag := false, presented := none, presentations := 0 }

/-- R153, R185: both slots empty and RDY low. -/
def MgmtPort.inReset : MgmtPort := { requestSlot := none, answerSlot := none, rdy := false, mdo := none }

/-- No cause. -/
def Causes.none : Causes := ⟨false, false, false, false, false, false, false⟩

/-- Every mask enabled (R177). -/
def Causes.all : Causes := ⟨true, true, true, true, true, true, true⟩

/-- R177. -/
def FaultRecords.clear : FaultRecords := ⟨.none, .none, .none, .none, .none, .none⟩

/-- R177. -/
def Attention.atReset : Attention :=
  { causes := Causes.none, masks := Causes.all, records := FaultRecords.clear, moreFaults := false }

/-- The part as a power-on or pin reset holds it (R185), the RESET input not yet released (log entry 1). -/
def State.reset : State :=
  { pins := Pins.atReset
    loader := Loader.atReset
    ring := none
    settings := Settings.atReset
    table := CircuitTable.empty
    monitors := ⟨Monitor.held, Monitor.held⟩
    ports := ⟨Port.silent, Port.silent⟩
    requests := RequestUnit.held
    protocol := SwitchUnit.held
    plan := PlanEngine.idle
    fabric := FabricPort.atReset
    mgmt := MgmtPort.inReset
    attention := Attention.atReset
    now := 0
    orders := { given := [], taken := 0 }
    pending := [] }

end Sys2Proof.Machine
end

