-- ==== Sys2Proof/Machine/Ops.lean ====
section
/-!
DEFINITION. The operations every block uses: what is held once for each side, the replacement of one block of the
state, the lengths of the timers, the free choice of an order, and the commands that leave a part held in reset as
it is.
-/

namespace Sys2Proof

/-- The opposite side (R6). -/
def Side.opposite : Side → Side
  | .east => .west
  | .west => .east

end Sys2Proof

namespace Sys2Proof.Machine

/-! ### Once for each side -/

def Pair.get {α : Type} (p : Pair α) : Side → α
  | .east => p.east
  | .west => p.west

def Pair.set {α : Type} (p : Pair α) (x : Side) (v : α) : Pair α :=
  match x with
  | .east => { p with east := v }
  | .west => { p with west := v }

def Pair.each {α : Type} (f : Side → α) : Pair α := ⟨f .east, f .west⟩

/-- The two sides, E then W. -/
def bothSides : List Side := [.east, .west]

/-! ### One block of the state replaced -/

/-- The state with pins replaced. -/
def State.setPins (s : State) (x : Pins) : State := { s with pins := x }

/-- The state with loader replaced. -/
def State.setLoader (s : State) (x : Loader) : State := { s with loader := x }

/-- The state with ring replaced. -/
def State.setRing (s : State) (x : Option Ring) : State := { s with ring := x }

/-- The state with settings replaced. -/
def State.setSettings (s : State) (x : Settings) : State := { s with settings := x }

/-- The state with table replaced. -/
def State.setTable (s : State) (x : CircuitTable) : State := { s with table := x }

/-- The state with monitors replaced. -/
def State.setMonitors (s : State) (x : Pair Monitor) : State := { s with monitors := x }

/-- The state with ports replaced. -/
def State.setPorts (s : State) (x : Pair Port) : State := { s with ports := x }

/-- The state with requests replaced. -/
def State.setRequests (s : State) (x : RequestUnit) : State := { s with requests := x }

/-- The state with protocol replaced. -/
def State.setProtocol (s : State) (x : SwitchUnit) : State := { s with protocol := x }

/-- The state with plan replaced. -/
def State.setPlan (s : State) (x : PlanEngine) : State := { s with plan := x }

/-- The state with fabric replaced. -/
def State.setFabric (s : State) (x : FabricPort) : State := { s with fabric := x }

/-- The state with mgmt replaced. -/
def State.setMgmt (s : State) (x : MgmtPort) : State := { s with mgmt := x }

/-- The state with attention replaced. -/
def State.setAttention (s : State) (x : Attention) : State := { s with attention := x }

/-- The state with now replaced. -/
def State.setNow (s : State) (x : Nat) : State := { s with now := x }

/-- The state with orders replaced. -/
def State.setOrders (s : State) (x : Choices) : State := { s with orders := x }

/-- The state with pending replaced. -/
def State.setPending (s : State) (x : List Instr) : State := { s with pending := x }

/-- One port replaced. -/
def State.setPort (s : State) (x : Side) (p : Port) : State := s.setPorts (s.ports.set x p)

/-- One Line Monitor replaced. -/
def State.setMonitor (s : State) (x : Side) (m : Monitor) : State := s.setMonitors (s.monitors.set x m)

/-- One local request replaced. -/
def State.setLocal (s : State) (x : Side) (l : LocalRequest) : State :=
  s.setRequests { s.requests with sides := s.requests.sides.set x l }

/-! ### The load state -/

/-- A power-on or pin reset lasts (R185). -/
def State.inReset (s : State) : Bool := s.loader.load == .noLoad

/-- The load state is LOADED: the blocks held until then run (R44, R56, R91, R110). -/
def State.running (s : State) : Bool := s.loader.load == .loaded

/-- A sweep is running (R25, R133). -/
def State.sweeping (s : State) : Bool := s.plan.sweep.isSome

/-- A command's effect outside reset. While a power-on or pin reset lasts, every piece of state keeps its reset
value (R185). -/
def State.live (s : State) (effect : State → State) : Host.Outcome State Fault Refusal :=
  .next (if s.inReset then s else effect s)

/-! ### Timers, told in notice periods of 125 µs -/

/-- The expiry of a timer started now. -/
def State.after (s : State) (periods : Nat) : Nat := s.now + periods

/-- The moment a timer was started toward has come. -/
def State.reached (s : State) (expiry : Nat) : Bool := decide (expiry ≤ s.now)

/-- A timer expires: it runs, and its moment has come. An expiry that reaches its block with the timer stopped, or
restarted meanwhile toward a later moment, does not happen (R47, R48, R63, R73, R102, R147; log entries 3 and 8). -/
def State.due (s : State) (t : Timer) : Bool :=
  match t with
  | none => false
  | some expiry => s.reached expiry

/-- One second is 8000 notice periods. -/
def periodsPerSecond : Nat := 8000

/-- The unit of the hold-off time, 10 ms, is 80 notice periods (Table 16). -/
def periodsPerHoldOffUnit : Nat := 80

/-- 24 notice periods (R62). -/
def linkDownPeriods : Nat := 24

/-- 64 notice periods (R84). -/
def echoHoldPeriods : Nat := 64

/-- 400 notice periods (R101). -/
def answerPeriods : Nat := 400

/-- 10 ms (R145). -/
def fabricPeriods : Nat := 80

/-- 10 ms (R179). -/
def bytePeriods : Nat := 80

/-- The whole seconds left of a settle timer, rounded down (R157); 0 when it is stopped (log entry 33,
the model's choice). -/
def State.secondsLeft (s : State) (t : Timer) : Nat :=
  match t with
  | none => 0
  | some expiry => (expiry - s.now) / periodsPerSecond

/-! ### The free choice of an order (log entry 5) -/

/-- The order the next point of choice takes: the first the state carries, else the free one. -/
def State.nextOrder (s : State) : EventOrder := s.orders.given.headD (eventOrder s.orders.taken)

/-- The state with that choice used up. -/
def State.dropOrder (s : State) : State := s.setOrders { given := s.orders.given.tail, taken := s.orders.taken + 1 }

/-- An event of both sides at one moment, taken side by side in the order chosen. -/
def State.eachSide (s : State) (event : Side → State → State) : State :=
  if s.nextOrder.westFirst then event .east (event .west s.dropOrder) else event .west (event .east s.dropOrder)

end Sys2Proof.Machine
end

