-- ==== Sys2Proof/Machine/Flags.lean ====
section
/-!
DEFINITION. The flags that are formed from other state: ATTN from the cause flags and the masks (R174), the gate from
the armed flag, the FREEZE pin and the freeze flag (R144); and the Attention Unit's taking of a fault report (R172)
and of a clear (R176).
-/

namespace Sys2Proof.Machine

/-! ### ATTN and the gate -/

/-- ATTN is asserted while at least one raised cause has its mask enabled (R174). -/
def Attention.attn (a : Attention) : Bool :=
  (a.causes.plan && a.masks.plan) || (a.causes.linkE && a.masks.linkE) || (a.causes.linkW && a.masks.linkW)
    || (a.causes.protocol && a.masks.protocol) || (a.causes.fabric && a.masks.fabric)
    || (a.causes.mgmt && a.masks.mgmt) || (a.causes.load && a.masks.load)

/-- The part is frozen while the FREEZE pin is asserted, or the freeze flag is set, or both (R144). -/
def State.frozen (s : State) : Bool := s.pins.freeze || s.fabric.freezeFlag

/-- The gate is open while the part is armed and not frozen (R144). -/
def State.gateOpen (s : State) : Bool := s.loader.armed && !s.frozen

/-! ### Causes and records -/

def Causes.ofGroup (c : Causes) : FaultGroup → Bool
  | .linkE => c.linkE
  | .linkW => c.linkW
  | .protocol => c.protocol
  | .fabric => c.fabric
  | .mgmt => c.mgmt
  | .load => c.load

def Causes.setGroup (c : Causes) (g : FaultGroup) (b : Bool) : Causes :=
  match g with
  | .linkE => { c with linkE := b }
  | .linkW => { c with linkW := b }
  | .protocol => { c with protocol := b }
  | .fabric => { c with fabric := b }
  | .mgmt => { c with mgmt := b }
  | .load => { c with load := b }

def FaultRecords.ofGroup (r : FaultRecords) : FaultGroup → Option FaultRecord
  | .linkE => r.linkE
  | .linkW => r.linkW
  | .protocol => r.protocol
  | .fabric => r.fabric
  | .mgmt => r.mgmt
  | .load => r.load

def FaultRecords.setGroup (r : FaultRecords) (g : FaultGroup) (x : Option FaultRecord) : FaultRecords :=
  match g with
  | .linkE => { r with linkE := x }
  | .linkW => { r with linkW := x }
  | .protocol => { r with protocol := x }
  | .fabric => { r with fabric := x }
  | .mgmt => { r with mgmt := x }
  | .load => { r with load := x }

/-- The fault group of a link port (R57). -/
def linkGroup : Side → FaultGroup
  | .east => .linkE
  | .west => .linkW

/-- A fault report (R172): it fills a clear record and raises the cause, or sets more-faults. -/
def Attention.report (a : Attention) (g : FaultGroup) (kind : FaultKind) (detail : Nat) : Attention :=
  match a.records.ofGroup g with
  | none => { a with records := a.records.setGroup g (some ⟨kind, detail⟩), causes := a.causes.setGroup g true }
  | some _ => { a with moreFaults := true }

/-- A clear of one group: its record and its cause flag; more-faults stands (R176). -/
def Attention.clearGroup (a : Attention) (g : FaultGroup) : Attention :=
  { a with records := a.records.setGroup g none, causes := a.causes.setGroup g false }

/-- A clear of the PLAN flag (R176). -/
def Attention.clearPlan (a : Attention) : Attention := { a with causes := { a.causes with plan := false } }

/-- A clear of ALL, which a soft RESTART makes too: records, cause flags and more-faults; the masks stand (R176,
R177). -/
def Attention.clearAll (a : Attention) : Attention :=
  { a with causes := Causes.none, records := FaultRecords.clear, moreFaults := false }

/-- The PLAN cause is raised (R171). -/
def Attention.raisePlan (a : Attention) : Attention := { a with causes := { a.causes with plan := true } }

/-- A block reports a fault (R172, R173). -/
def State.report (s : State) (g : FaultGroup) (kind : FaultKind) (detail : Nat) : State :=
  s.setAttention (s.attention.report g kind detail)

/-- ATTN as the pin shows it (R174). -/
def State.attn (s : State) : Bool := s.attention.attn

/-! ### Flags as bytes (R167) -/

/-- The seven flags in the bit positions of the masks byte (R167). -/
def Causes.toNat (c : Causes) : Nat :=
  flagBit c.plan 64 + flagBit c.linkE 32 + flagBit c.linkW 16 + flagBit c.protocol 8 + flagBit c.fabric 4
    + flagBit c.mgmt 2 + flagBit c.load 1

/-- The masks byte, its spare bit disregarded (R159, R167). -/
def Causes.ofByte (b : Byte) : Causes :=
  { plan := bitOf b 6, linkE := bitOf b 5, linkW := bitOf b 4, protocol := bitOf b 3, fabric := bitOf b 2,
    mgmt := bitOf b 1, load := bitOf b 0 }

/-- The code of a fault kind within its group (R167). -/
def FaultKind.code : FaultKind → Nat
  | .framing => 1
  | .check => 2
  | .ringTag => 3
  | .mapStyle => 4
  | .unknownNode => 5
  | .malformed => 6
  | .down => 7
  | .noAnswer => 1
  | .restartLimit => 2
  | .timeout => 1
  | .overrun => 1
  | .badFrame => 2
  | .unknownRequest => 3
  | .readFailed => 1
  | .imageCheck => 2
  | .size => 3
  | .selfMissing => 4
  | .selfTwice => 5
  | .duplicateId => 6

end Sys2Proof.Machine
end

