-- ==== Sys2Proof/Machine/Ring.lean ====
section
/-!
DEFINITION. The Ring Table's arithmetic (chapter 1): ids and positions, spans and sides, protection partners, and the
coverage of routes. Positions and spans are numbers, and all arithmetic on them is modulo the ring size N.
-/

namespace Sys2Proof.Machine

/-- What the Ring Table answers while it is empty: no id is on the ring (R1). -/
def Ring.empty : Ring := { ringTag := 0, style := .straight, positions := [], delays := [], transit := 0 }

/-- The ring as the other blocks read it. -/
def State.geo (s : State) : Ring := s.ring.getD Ring.empty

/-- The ring size N. -/
def Ring.size (r : Ring) : Nat := r.positions.length

/-- Id to position (R4). -/
def Ring.positionOf (r : Ring) (id : Nat) : Option Nat := r.positions.findIdx? (· == id)

/-- Position to id (R4). -/
def Ring.idAt (r : Ring) (p : Nat) : Nat := r.positions.getD p 0

/-- The self id: the id at position 0 (R3). -/
def Ring.selfId (r : Ring) : Nat := r.idAt 0

/-- (b − a) mod N. -/
def Ring.dist (r : Ring) (a b : Nat) : Nat := (b + (r.size - a % r.size)) % r.size

/-- The position eastward of p: the east end of span p (R5). -/
def Ring.next (r : Ring) (p : Nat) : Nat := (p + 1) % r.size

/-- The span joining two positions, none when they are not adjacent (R5). -/
def Ring.spanJoining (r : Ring) (a b : Nat) : Option Nat :=
  if b = r.next a then some a else if a = r.next b then some b else none

/-- The id of a span's west end (R5). -/
def Ring.westId (r : Ring) (span : Nat) : Nat := r.idAt span

/-- The id of a span's east end (R5). -/
def Ring.eastId (r : Ring) (span : Nat) : Nat := r.idAt (r.next span)

/-- The lower end id of a span (R5). -/
def Ring.lowerId (r : Ring) (span : Nat) : Nat := min (r.westId span) (r.eastId span)

/-- The other end id of a span (R87). -/
def Ring.otherId (r : Ring) (span : Nat) : Nat := max (r.westId span) (r.eastId span)

/-- The span a side faces (R6). -/
def Ring.facing (r : Ring) : Side → Nat
  | .east => 0
  | .west => r.size - 1

/-- The position of the far end of the span a side faces (R6). -/
def Ring.farEnd (r : Ring) : Side → Nat
  | .east => 1
  | .west => r.size - 1

/-- The delay of a span. -/
def Ring.delayOf (delays : List Nat) (span : Nat) : Nat := delays.getD span 0

/-- The protection partner p(k) of a working channel (R8). -/
def MapStyle.partner (m : MapStyle) (k : Nat) : Nat :=
  match m with
  | .straight => 40 + k
  | .crossed => 79 - k

/-- The working channel behind a protection channel (R8). -/
def MapStyle.behind (m : MapStyle) (q : Nat) : Nat :=
  match m with
  | .straight => q - 40
  | .crossed => 79 - q

/-- Channels 0..39 are working, 40..79 protection (R7). -/
def isProtection (q : Nat) : Bool := decide (40 ≤ q)

/-- A route (R9): source and destination positions, direction, start span, hop count. -/
structure Route where
  source : Nat
  destination : Nat
  direction : Direction
  start : Nat
  hops : Nat
deriving DecidableEq, Repr

/-- The route from pa to pb in a direction (R9). -/
def Ring.route (r : Ring) (pa pb : Nat) (d : Direction) : Route :=
  match d with
  | .east => { source := pa, destination := pb, direction := d, start := pa, hops := r.dist pa pb }
  | .west => { source := pa, destination := pb, direction := d, start := pb, hops := r.dist pb pa }

/-- A span is covered when (s − start span) mod N is less than h (R9). -/
def Ring.covers (r : Ring) (t : Route) (span : Nat) : Bool := decide (r.dist t.start span < t.hops)

/-- Two routes overlap when the start span of one is covered by the other (R10). -/
def Ring.overlap (r : Ring) (t u : Route) : Bool :=
  decide (r.dist t.start u.start < t.hops) || decide (r.dist u.start t.start < u.hops)

/-- The spans of an eastward run of h spans from a start span (R9, R10). -/
def Ring.spansFrom (r : Ring) (start hops : Nat) : List Nat := (List.range hops).map fun i => (start + i) % r.size

/-- The sum of the delays of a run of spans. -/
def Ring.delaySum (r : Ring) (delays : List Nat) (start hops : Nat) : Nat :=
  ((r.spansFrom start hops).map (Ring.delayOf delays)).sum

/-- The route of a record (R19). Every record in the table has ids that convert (R27). -/
def Ring.circuitRoute (r : Ring) (c : Circuit) : Route :=
  r.route ((r.positionOf c.source).getD 0) ((r.positionOf c.destination).getD 0) c.direction

/-- The hop index of position 0 along a route (R10). -/
def Ring.hopIndexOfSelf (r : Ring) (t : Route) : Nat :=
  match t.direction with
  | .east => r.dist t.source 0
  | .west => r.dist 0 t.source

/-- The local role (R20). -/
inductive LocalRole where
  | head
  | tail
  | through
  | none
deriving DecidableEq, Repr

/-- The local role of a route: its part at position 0 (R20). -/
def Ring.roleOf (r : Ring) (t : Route) : LocalRole :=
  if t.source = 0 then .head
  else if t.destination = 0 then .tail
  else if r.hopIndexOfSelf t < t.hops then .through
  else .none

/-- The side a route leaves position 0 on (R6). -/
def Direction.leaving : Direction → Side
  | .east => .east
  | .west => .west

/-- The side a route arrives at position 0 on (R6). -/
def Direction.arriving : Direction → Side
  | .east => .west
  | .west => .east

/-- Latencies are held and reported saturated at 65535 (R21, R127). -/
def saturate (n : Nat) : Nat := min n 65535

/-- The working latency of a record, from the current Ring Table (R21). -/
def Ring.workingLatency (r : Ring) (c : Circuit) : Nat :=
  let t := r.circuitRoute c
  saturate (r.delaySum r.delays t.start t.hops + (t.hops - 1) * r.transit)

end Sys2Proof.Machine
end

