-- ==== Sys2Proof/Machine/Operands.lean ====
section
/-!
DEFINITION. The operand forms: the codes of section 9.9, the layouts of every request body (R166, R167), of a ring
notice (R164), of an answer frame (R165), of the configuration image (R169) and of a presentation (R170).
-/

namespace Sys2Proof.Machine

/-! ### Codes inside bodies and frames -/

def Kind.code : Kind → Nat
  | .quiet => 0
  | .settle => 1
  | .ask => 2
  | .dim => 3
  | .dark => 4
  | .force => 5
  | .bar => 6

/-- Code 7 is not a kind (R69). -/
def Kind.ofCode : Nat → Option Kind
  | 0 => some .quiet
  | 1 => some .settle
  | 2 => some .ask
  | 3 => some .dim
  | 4 => some .dark
  | 5 => some .force
  | 6 => some .bar
  | _ => none

def SideState.code : SideState → Nat
  | .idle => 0
  | .bridged => 1
  | .switched => 2

/-- The field's fourth value is spare and is not a state (R53). -/
def SideState.ofCode : Nat → Option SideState
  | 0 => some .idle
  | 1 => some .bridged
  | 2 => some .switched
  | _ => none

def MapStyle.code : MapStyle → Nat
  | .straight => 0
  | .crossed => 1

def Direction.code : Direction → Nat
  | .east => 0
  | .west => 1

def Direction.ofCode : Nat → Option Direction
  | 0 => some .east
  | 1 => some .west
  | _ => none

def CircuitClass.code : CircuitClass → Nat
  | .prot => 0
  | .bare => 1
  | .extra => 2

def CircuitClass.ofCode : Nat → Option CircuitClass
  | 0 => some .prot
  | 1 => some .bare
  | 2 => some .extra
  | _ => none

def LatePolicy.code : LatePolicy → Nat
  | .restoreAnyway => 0
  | .squelchIfLate => 1

def LatePolicy.ofCode : Nat → Option LatePolicy
  | 0 => some .restoreAnyway
  | 1 => some .squelchIfLate
  | _ => none

def Level.code : Level → Nat
  | .clear => 0
  | .dim => 1
  | .dark => 2

def LocalRole.code : LocalRole → Nat
  | .head => 0
  | .tail => 1
  | .through => 2
  | .none => 3

/-- The action code in a plan byte; UNPLANNED is 0. -/
def Action.code : Action → Nat
  | .carried => 1
  | .down => 2
  | .restored _ _ _ => 3
  | .squelched _ => 4
  | .preempted => 5
  | .outside => 6

def Reason.code : Reason → Nat
  | .islands => 1
  | .late => 2

/-- The load state codes of R167; a part held in reset answers no request. -/
def LoadState.code : LoadState → Nat
  | .noLoad => 0
  | .loading => 0
  | .checking => 1
  | .loaded => 2
  | .loadFailed => 3

def LinePart.code : LinePart → Nat
  | .none => 0
  | .dim => 1
  | .dark => 2
  | .settle => 3

def OperatorPart.code : OperatorPart → Nat
  | .none => 0
  | .ask => 1
  | .force => 2
  | .bar => 3

/-- The operator part an action of an OPERATOR request asks for; RELEASE asks for none (R167). -/
def OperatorPart.ofByte (b : Byte) : Option OperatorPart :=
  match b.toNat with
  | 0 => some .none
  | 1 => some .ask
  | 2 => some .force
  | 3 => some .bar
  | _ => Option.none

def Side.code : Side → Nat
  | .east => 0
  | .west => 1

def sideOfByte (b : Byte) : Option Side :=
  match b.toNat with
  | 0 => some .east
  | 1 => some .west
  | _ => none

def AnswerCode.code : AnswerCode → Nat
  | .done => 0
  | .busy => 1
  | .locked => 2
  | .absent => 3
  | .taken => 4
  | .clash => 5
  | .full => 6
  | .invalid => 7
  | .outranked => 8
  | .unknown => 9
  | .corrupt => 10
  | .notReady => 11

/-- The details of INVALID (Table 42). -/
inductive Detail where
  | id
  | channel
  | endpoint
  | sameEnds
  | badCode
  | classChannel
  | length
  | value
deriving DecidableEq, Repr

def Detail.code : Detail → Nat
  | .id => 1
  | .channel => 2
  | .endpoint => 3
  | .sameEnds => 4
  | .badCode => 5
  | .classChannel => 6
  | .length => 7
  | .value => 8

/-- The fault group a FAULT-READ or FAULT-CLEAR names (R167). -/
def groupOfByte (b : Byte) : Option FaultGroup :=
  match b.toNat with
  | 0 => some .linkE
  | 1 => some .linkW
  | 2 => some .protocol
  | 3 => some .fabric
  | 4 => some .mgmt
  | 5 => some .load
  | _ => none

/-! ### Answers -/

/-- What a block answers: the code and the body; the port sets the request code beside them. -/
structure Reply where
  code : AnswerCode
  body : List Byte
deriving DecidableEq, Repr

/-- An answer with an empty body (R165). -/
def Reply.plain (c : AnswerCode) : Reply := ⟨c, []⟩

/-- INVALID carries one detail byte (R165). -/
def Reply.invalid (d : Detail) : Reply := ⟨.invalid, [byteOf d.code]⟩

def Reply.done (body : List Byte) : Reply := ⟨.done, body⟩

/-- The answer frame on the line: code echoed, answer code, length, body, CRC-8 (R165). -/
def Answer.frame (a : Answer) : List Byte :=
  let bytes := a.request :: byteOf a.code.code :: byteOf a.body.length :: a.body
  bytes ++ [crc8 bytes]

/-- The NOT-READY filler (R165). -/
def Answer.filler : Answer := { request := 0x00#8, code := .notReady, body := [] }

/-! ### Circuit requests (R166) -/

/-- The codes byte: direction in bits 7..6, class in bits 5..4, late policy in bits 3..2. -/
def codesByte (c : Circuit) : Byte := byteOf (c.direction.code * 64 + c.cls.code * 16 + c.policy.code * 4)

def directionField (b : Byte) : Nat := b.toNat / 64
def classField (b : Byte) : Nat := b.toNat / 16 % 4
def policyField (b : Byte) : Nat := b.toNat / 4 % 4

/-- The ADD body as it stands, no field yet checked (R27, R166). -/
structure AddBody where
  id : Nat
  channel : Nat
  source : Nat
  destination : Nat
  codes : Byte
  ceiling : Nat
  label : List Byte
deriving DecidableEq, Repr

/-- The shape of an ADD body: L = 9 + n with n label bytes (R156, R166). -/
def parseAdd (body : List Byte) : Option AddBody :=
  match body with
  | i1 :: i0 :: ch :: src :: dst :: codes :: c1 :: c0 :: n :: label =>
    if label.length = n.toNat then
      some { id := wordOf i1 i0, channel := ch.toNat, source := src.toNat, destination := dst.toNat, codes := codes,
             ceiling := wordOf c1 c0, label := label }
    else none
  | _ => none

/-- The EDIT body as it stands (R29, R166). -/
structure EditBody where
  id : Nat
  marks : Byte
  codes : Byte
  ceiling : Nat
  label : List Byte
deriving DecidableEq, Repr

/-- The shape of an EDIT body: L = 7 + n with n label bytes (R156, R166). -/
def parseEdit (body : List Byte) : Option EditBody :=
  match body with
  | i1 :: i0 :: marks :: codes :: c1 :: c0 :: n :: label =>
    if label.length = n.toNat then
      some { id := wordOf i1 i0, marks := marks, codes := codes, ceiling := wordOf c1 c0, label := label }
    else none
  | _ => none

/-- Given marks of an EDIT: bit 3 class, bit 2 ceiling, bit 1 policy, bit 0 label (R166). -/
def EditBody.givesClass (e : EditBody) : Bool := bitOf e.marks 3
def EditBody.givesCeiling (e : EditBody) : Bool := bitOf e.marks 2
def EditBody.givesPolicy (e : EditBody) : Bool := bitOf e.marks 1
def EditBody.givesLabel (e : EditBody) : Bool := bitOf e.marks 0

/-- The label as stored (R17): cut to 16 characters; of length 0, no label. -/
def storedLabel (bytes : List Byte) : Option (List Byte) := if bytes.isEmpty then none else some (bytes.take 16)

/-- The truncated flag (R17): the label was longer than 16 characters. -/
def labelCut (bytes : List Byte) : Bool := decide (16 < bytes.length)

/-- A body of two bytes that names a circuit id (R166). -/
def parseId (body : List Byte) : Option Nat :=
  match body with
  | [i1, i0] => some (wordOf i1 i0)
  | _ => none

/-- A circuit id as the two bytes of an answer. -/
def idBytes (id : Nat) : List Byte := wordBytes id

/-- The plan byte: action in bits 7..4, reason in bits 3..2, late mark in bit 1, plan-pending in bit 0 (R166). Where the
action is not RESTORED there is no late mark (R32), and its bit is sent as 0 (log entry 33, the model's choice). -/
def planByte (a : Option Action) (pending : Bool) : Byte :=
  let p := flagBit pending 1
  match a with
  | none => byteOf p
  | some (.restored _ _ late) => byteOf (3 * 16 + flagBit late 2 + p)
  | some (.squelched why) => byteOf (4 * 16 + why.code * 4 + p)
  | some other => byteOf (other.code * 16 + p)

/-- The restored hop count and latency of an answer, 0 when absent: of READ by R166, of CHANNEL-READ likewise (log entry
33, the model's choice). -/
def restoredBytes (a : Option Action) : List Byte :=
  match a with
  | some (.restored hops latency _) => byteOf hops :: wordBytes latency
  | _ => [0, 0, 0]

/-- The plan fields of an answer: plan byte, restored hop count, restored latency (R32, R166). -/
def planFields (a : Option Action) (pending : Bool) : List Byte := planByte a pending :: restoredBytes a

/-- The action byte of a walk entry, or UNPLANNED (R166). -/
def actionByte (a : Option Action) : Byte :=
  match a with
  | none => 0
  | some x => byteOf (x.code * 16)

/-! ### Settings (R167) -/

/-- The values of a SETTINGS-WRITE body, with its given marks. -/
structure SettingsBody where
  marks : Byte
  holdOff : Nat
  clearSoak : Nat
  settle : Nat
  dimThreshold : Nat
  transit : Nat
  masks : Byte
deriving DecidableEq, Repr

/-- The shape of a SETTINGS-WRITE body: given marks and the settings set (R167). -/
def parseSettings (body : List Byte) : Option SettingsBody :=
  match body with
  | [marks, hold, soak, s1, s0, dim, transit, masks] =>
    some { marks := marks, holdOff := hold.toNat, clearSoak := soak.toNat, settle := wordOf s1 s0,
           dimThreshold := dim.toNat, transit := transit.toNat, masks := masks }
  | _ => none

/-- Given marks: bit 5 hold-off, bit 4 clear soak, bit 3 settle, bit 2 DIM threshold, bit 1 node transit delay, bit 0
masks (R167). -/
def SettingsBody.gives (b : SettingsBody) (k : Nat) : Bool := bitOf b.marks k

/-- A SETTINGS-WRITE whose given marks name the attention masks alone (R156). -/
def givesMasksAlone (body : List Byte) : Bool :=
  match body with
  | marks :: _ => marks.toNat % 64 == 1
  | [] => false

/-- The settings set (R167). -/
def State.settingsBytes (s : State) : List Byte :=
  [byteOf s.settings.holdOff, byteOf s.settings.clearSoak] ++ wordBytes s.settings.settle
    ++ [byteOf s.settings.dimThreshold, byteOf s.geo.transit, byteOf s.attention.masks.toNat]

/-! ### Ring notices (R164) -/

/-- Bytes 1 to 3 of a notice frame. -/
def Notice.bytes (n : Notice) : List Byte :=
  [byteOf (n.ringTag * 16 + n.style.code * 8 + n.kind.code), byteOf (n.state.code * 64 + n.origin), byteOf n.target]

/-- The seven bytes of a notice frame: start delimiter, content, CRC-16, end delimiter. -/
def Notice.frame (n : Notice) : List Byte :=
  [0x4E#8] ++ n.bytes ++ wordBytes (crc16 n.bytes) ++ [0x72#8]

/-- The fields of an arrived frame: ring tag, map style, kind code, state code, origin id, target id (R164). -/
def ArrivedFrame.ringTag (f : ArrivedFrame) : Nat := f.first.toNat / 16
def ArrivedFrame.style (f : ArrivedFrame) : MapStyle := if bitOf f.first 3 then .crossed else .straight
def ArrivedFrame.kindCode (f : ArrivedFrame) : Nat := f.first.toNat % 8
def ArrivedFrame.stateCode (f : ArrivedFrame) : Nat := f.second.toNat / 64
def ArrivedFrame.origin (f : ArrivedFrame) : Nat := f.second.toNat % 64
def ArrivedFrame.target (f : ArrivedFrame) : Nat := idOfByte f.third

/-- The check code matches the CRC-16 of bytes 1 to 3 (R57, R163). -/
def ArrivedFrame.checks (f : ArrivedFrame) : Bool := f.check == crc16 [f.first, f.second, f.third]

/-! ### The configuration image (R169) -/

/-- The byte of the image at an address. -/
def imageByte (image : List Byte) (address : Nat) : Byte := image.getD address 0

/-- The two-byte field of the image at an address. -/
def imageWord (image : List Byte) (address : Nat) : Nat := wordOf (imageByte image address) (imageByte image (address + 1))

/-- The ring size N as read. -/
def imageSize (image : List Byte) : Nat := (imageByte image 1).toNat

/-- The self id. -/
def imageSelf (image : List Byte) : Nat := idOfByte (imageByte image 2)

/-- The first N entries of the id list. -/
def imageIds (image : List Byte) : List Nat :=
  (List.range (imageSize image)).map fun i => idOfByte (imageByte image (3 + i))

/-! ### A presentation (R170) -/

/-- A line entry: the source in bits 15..12, the circuit or channel in bits 11..0. -/
def Source.word : Source → Nat
  | .idle => 0
  | .pass => 4096
  | .addCircuit c => 2 * 4096 + c
  | .turn m => 3 * 4096 + m
  | .squelch => 4 * 4096

/-- A drop entry: circuit id, incoming side (FFh for NONE), incoming channel (0 for NONE). -/
def Drop.bytes (d : Drop) : List Byte :=
  wordBytes d.circuit ++
    match d.source with
    | none => [0xFF#8, 0]
    | some (side, channel) => [byteOf (Side.code side), byteOf channel]

/-- The bytes of a presentation: generation, the 160 line entries, the drop entry count, the drop entries. -/
def SelectorMap.bytes (m : SelectorMap) : List Byte :=
  wordBytes (m.generation.getD 0) ++ m.lines.east.flatMap (fun l => wordBytes l.word)
    ++ m.lines.west.flatMap (fun l => wordBytes l.word) ++ [byteOf m.drops.length] ++ m.drops.flatMap Drop.bytes

end Sys2Proof.Machine
end

