-- ==== Sys2Proof/Machine/Plan.lean ====
section
/-!
DEFINITION. The restoration plan (chapter 7): switched spans and islands, the view, the action of every circuit, the
restored route and its latency, and the comparison of two plans. A plan is a function of the snapshot, the ring and
the records alone (R112, R132).
-/

namespace Sys2Proof.Machine

/-- A span of kind BAR is in the served set. -/
def hasBar (served : List ServedEntry) : Bool := served.any fun e => e.kind == .bar

/-- The switched spans (R113), in the ascending order of the served set. -/
def switchedSpans (served : List ServedEntry) : List Nat := if hasBar served then [] else served.map (·.span)

/-- The arcs between consecutive switched spans: from the position east of each to the next one (R114). -/
def Ring.arcs (r : Ring) (first : Nat) : List Nat → List Island
  | [] => []
  | [last] => [.arc (r.next last) first]
  | s :: t :: rest => .arc (r.next s) t :: r.arcs first (t :: rest)

/-- The west end of an island, for the order in which the plan lists them (R111). -/
def Island.westEnd : Island → Nat
  | .whole => 0
  | .arc w _ => w

/-- An island put before those whose west end is not smaller. -/
def Island.insert (i : Island) : List Island → List Island
  | [] => [i]
  | j :: rest => if i.westEnd ≤ j.westEnd then i :: j :: rest else j :: i.insert rest

/-- The islands (R114), in ascending order of their west end position (R111). -/
def Ring.islands (r : Ring) (switched : List Nat) : List Island :=
  match switched with
  | [] => [.whole]
  | first :: _ => (r.arcs first switched).foldr Island.insert []

/-- A position lies in an island (R115). -/
def Ring.holds (r : Ring) (i : Island) (p : Nat) : Bool :=
  match i with
  | .whole => true
  | .arc w e => decide (r.dist w p ≤ r.dist w e)

/-- The island of a position (R115). -/
def Ring.islandOf (r : Ring) (islands : List Island) (p : Nat) : Island :=
  (islands.find? fun i => r.holds i p).getD .whole

/-- The view (R116). -/
def viewOf (served : List ServedEntry) : View :=
  if served.length ≤ 1 && !hasBar served then .full else .part

/-- A route meets a set of spans when it covers one of them (section 7.4). -/
def Ring.meets (r : Ring) (t : Route) (spans : List Nat) : Bool := spans.any fun s => r.covers t s

/-! ### The restored route (R124, R125, R128) -/

/-- The arc index of a position in an island, along the working direction (R124). -/
def Ring.arcIndex (r : Ring) (d : Direction) (west east p : Nat) : Nat :=
  match d with
  | .east => r.dist west p
  | .west => r.dist p east

/-- The sum of the delays of `hops` internal spans from arc index `i` on: eastward from the west end for an EAST
circuit, westward from the east end for a WEST one (R124, R128). -/
def Ring.arcDelay (r : Ring) (delays : List Nat) (d : Direction) (west east i hops : Nat) : Nat :=
  match d with
  | .east => r.delaySum delays ((west + i) % r.size) hops
  | .west => r.delaySum delays (r.dist (i + hops) east) hops

/-- A restored route: its hop count and its saturated latency (R125, R127, R128). -/
structure Restored where
  hops : Nat
  latency : Nat
deriving DecidableEq, Repr

/-- The restored route of a circuit whose endpoints lie in the island from `west` to `east` (R125, R128). -/
def Ring.restoredRoute (r : Ring) (snap : Snapshot) (t : Route) (west east : Nat) : Restored :=
  let m := r.dist west east + 1
  let pa := r.arcIndex t.direction west east t.source
  let pb := r.arcIndex t.direction west east t.destination
  let h1 := m - 1 - pa
  let h2 := pb
  let hops := h1 + (m - 1) + h2
  let spanDelay := r.arcDelay snap.delays t.direction west east pa h1
    + r.arcDelay snap.delays t.direction west east 0 (m - 1)
    + r.arcDelay snap.delays t.direction west east 0 h2
  { hops := hops, latency := saturate (spanDelay + (hops - 1) * snap.transit) }

/-- The action of a circuit of case 7 (R122): the ceiling test on the saturated latency, and the late policy. -/
def restoredAction (c : Circuit) (x : Restored) : Action :=
  if c.ceiling = 0 ∨ x.latency ≤ c.ceiling then .restored x.hops x.latency false
  else
    match c.policy with
    | .squelchIfLate => .squelched .late
    | .restoreAnyway => .restored x.hops x.latency true

/-! ### The action (Table 29) -/

/-- DOWN if the route meets dark, otherwise CARRIED (R118, R119, R121). -/
def Ring.carriedOrDown (r : Ring) (snap : Snapshot) (t : Route) : Action :=
  if r.meets t snap.knownDark then .down else .carried

/-- The action of a circuit, by the first case of Table 29 that applies. -/
def Ring.actionOf (r : Ring) (snap : Snapshot) (c : Circuit) : Action :=
  let t := r.circuitRoute c
  let switched := switchedSpans snap.served
  let islands := r.islands switched
  let islandA := r.islandOf islands t.source
  let islandB := r.islandOf islands t.destination
  let home := r.islandOf islands 0
  if hasBar snap.served then r.carriedOrDown snap t
  else if c.cls = .extra then (if snap.served.isEmpty then r.carriedOrDown snap t else .preempted)
  else if !r.meets t switched then .carried
  else if islandA ≠ home ∧ islandB ≠ home then .outside
  else if c.cls = .bare then r.carriedOrDown snap t
  else
    match islandA with
    | .arc west east =>
      if islandB = islandA then restoredAction c (r.restoredRoute snap t west east) else .squelched .islands
    | .whole => .squelched .islands

/-- The plan a sweep builds from its snapshot and the records it reads (R111, R112, R135). -/
def Ring.buildPlan (r : Ring) (snap : Snapshot) (circuits : List Circuit) : Plan :=
  let switched := switchedSpans snap.served
  let islands := r.islands switched
  { served := snap.served
    knownDark := snap.knownDark
    switched := switched
    islands := islands
    localIsland := r.islandOf islands 0
    view := viewOf snap.served
    entries := circuits.map fun c => { id := c.id, action := r.actionOf snap c } }

/-- The entry of a plan for a circuit id (R32). -/
def Plan.actionFor (p : Plan) (id : Nat) : Option Action := (p.entries.find? fun e => e.id == id).map (·.action)

/-- What the committed plan, if there is one, holds for a circuit id (R32). -/
def PlanEngine.actionFor (e : PlanEngine) (id : Nat) : Option Action := e.committed.bind fun p => p.actionFor id

/-- The entries of a plan, none of no plan. -/
def entriesOf (p : Option Plan) : List PlanEntry := (p.map (·.entries)).getD []

/-- The action a plan holds for an id, as its code: reason, hop count, latency and late mark do not count (R129). -/
def actionCodeIn (p : Option Plan) (id : Nat) : Option Nat := (p.bind fun q => q.actionFor id).map Action.code

/-- A new plan changes an action (R129): for some id the two actions differ, or one plan alone holds an entry. -/
def changesAction (old : Option Plan) (new : Plan) : Bool :=
  ((entriesOf old).map (·.id) ++ new.entries.map (·.id)).any fun id => actionCodeIn old id != actionCodeIn (some new) id

end Sys2Proof.Machine
end

