-- ==== Sys2Proof/Machine/Sweeps.lean ====
section
/-!
DEFINITION. Sweep triggers, snapshots, restarts and the restart limit (sections 8.1 to 8.3).
-/

namespace Sys2Proof.Machine

/-- The spans whose record has dark yes (R82). -/
def knownDark (records : List SpanRecord) : List Nat :=
  (List.range records.length).filter fun s => (records[s]?.map (·.dark)).getD false

/-- The snapshot a sweep takes when it starts (R134). -/
def State.snapshot (s : State) : Snapshot :=
  { served := s.requests.served
    knownDark := knownDark s.requests.records
    delays := s.geo.delays
    transit := s.geo.transit
    decided := Pair.each fun x => (s.protocol.sides.get x).decided }

/-- A sweep starts at channel 0 with a snapshot taken now (R134); its restart count is given. -/
def State.startSweep (s : State) (restarts : Nat) : State :=
  s.setPlan { s.plan with sweep := some { snapshot := s.snapshot, channel := 0 }, restarts := restarts }

/-- A sweep trigger (R133): it starts a sweep when none runs; restarts a running one while the count is below 4
(R136); and at 4 makes a follow-up due, reported once as RESTART-LIMIT (R137). -/
def State.trigger (s : State) : State :=
  if !s.sweeping then s.startSweep 0
  else if s.plan.restarts < 4 then s.startSweep (s.plan.restarts + 1)
  else if s.plan.followUp then s
  else (s.setPlan { s.plan with followUp := true }).report .protocol .restartLimit 0

end Sys2Proof.Machine
end

