-- ==== Sys2Proof/Machine/Circuits.lean ====
section
/-!
DEFINITION. The Circuit Table's requests (chapter 2): ADD, EDIT, RETIRE, READ, CHANNEL-READ and WALK, each after the
port's checks of R156 with its body's bytes still to be read.
-/

namespace Sys2Proof.Machine

/-! ### The table -/

/-- 2048 record places (R22). -/
def recordPlaces : Nat := 2048

/-- The record with a circuit id (R22). -/
def CircuitTable.find (t : CircuitTable) (id : Nat) : Option Circuit := t.circuits.find? fun c => c.id == id

/-- The chain of a channel (R23). -/
def CircuitTable.chain (t : CircuitTable) (channel : Nat) : List Circuit := t.circuits.filter fun c => c.channel == channel

/-- The start span of a record (R19). -/
def Ring.startSpan (r : Ring) (c : Circuit) : Nat := (r.circuitRoute c).start

/-- A record lies at a smaller place than another: by channel, then by start span (R23, R35). -/
def Ring.chainBefore (r : Ring) (a b : Circuit) : Bool :=
  decide (a.channel < b.channel) || (a.channel == b.channel && decide (r.startSpan a < r.startSpan b))

/-- A record inserted after every record at a smaller place (R28). -/
def Ring.insertCircuit (r : Ring) (c : Circuit) : List Circuit → List Circuit
  | [] => [c]
  | d :: rest => if r.chainBefore d c then d :: r.insertCircuit c rest else c :: d :: rest

/-- The first record of the channel's chain whose route overlaps the route of a new record (R24, R27). -/
def Ring.clashing (r : Ring) (circuits : List Circuit) (c : Circuit) : Option Circuit :=
  circuits.find? fun d => d.channel == c.channel && r.overlap (r.circuitRoute d) (r.circuitRoute c)

/-- The disturbed mark after an accepted ADD or RETIRE on a channel (R39). -/
def disturb (cursor : Option Cursor) (channel : Nat) : Option Cursor :=
  cursor.map fun k => if k.lo ≤ channel ∧ channel ≤ k.hi then { k with disturbed := true } else k

/-! ### ADD (R27, R28) -/

/-- The class agrees with the channel (R18). -/
def CircuitClass.agrees (c : CircuitClass) (channel : Nat) : Bool :=
  match c with
  | .extra => isProtection channel
  | _ => !isProtection channel

/-- The checks of R27, step 1, in order: the record, or the first failing item. -/
def Ring.checkAdd (r : Ring) (a : AddBody) : Except Detail Circuit :=
  if 4095 < a.id then .error .id
  else if 79 < a.channel then .error .channel
  else if 63 < a.source ∨ 63 < a.destination ∨ r.positionOf a.source = none ∨ r.positionOf a.destination = none then
    .error .endpoint
  else if a.source = a.destination then .error .sameEnds
  else
    match Direction.ofCode (directionField a.codes), CircuitClass.ofCode (classField a.codes),
        LatePolicy.ofCode (policyField a.codes) with
    | some direction, some cls, some policy =>
      if cls.agrees a.channel then
        .ok { id := a.id, channel := a.channel, source := a.source, destination := a.destination,
              direction := direction, cls := cls, ceiling := a.ceiling, policy := policy, label := storedLabel a.label }
      else .error .classChannel
    | _, _, _ => .error .badCode

/-- An accepted ADD: the record enters the table, the cursor may be disturbed, a sweep is triggered (R28). -/
def State.addCircuit (s : State) (c : Circuit) : State :=
  (s.setTable { circuits := s.geo.insertCircuit c s.table.circuits, cursor := disturb s.table.cursor c.channel }).trigger

/-- The DONE body of an ADD (R28, R166). -/
def Ring.addAnswer (r : Ring) (c : Circuit) (cut : Bool) : List Byte :=
  let t := r.circuitRoute c
  idBytes c.id ++ [byteOf (r.westId t.start), byteOf t.hops, byteOf (r.roleOf t).code, byteOf (flagBit cut 1)]

/-- ADD (R25, R27, R28). -/
def serveAdd (body : List Byte) (s : State) : State × Reply :=
  match parseAdd body with
  | none => (s, Reply.invalid .length)
  | some a =>
    if s.sweeping then (s, Reply.plain .busy)
    else
      match s.geo.checkAdd a with
      | .error d => (s, Reply.invalid d)
      | .ok c =>
        if (s.table.find c.id).isSome then (s, Reply.plain .taken)
        else
          match s.geo.clashing s.table.circuits c with
          | some d => (s, ⟨.clash, idBytes d.id⟩)
          | none =>
            if recordPlaces ≤ s.table.circuits.length then (s, Reply.plain .full)
            else (s.addCircuit c, Reply.done (s.geo.addAnswer c (labelCut a.label)))

/-! ### EDIT (R29, R30) -/

/-- A class change to or from EXTRA is refused (R29). -/
def CircuitClass.changesExtra (old new : CircuitClass) : Bool := (old == .extra) != (new == .extra)

/-- The record after the given fields of an EDIT (R30), its class and policy decoded where given. -/
def Circuit.edited (c : Circuit) (e : EditBody) (cls : CircuitClass) (policy : LatePolicy) : Circuit :=
  { c with
    cls := if e.givesClass then cls else c.cls
    ceiling := if e.givesCeiling then e.ceiling else c.ceiling
    policy := if e.givesPolicy then policy else c.policy
    label := if e.givesLabel then storedLabel e.label else c.label }

/-- The EDIT changes what a plan rests on: class, ceiling or policy (R30). -/
def Circuit.planDiffers (old new : Circuit) : Bool :=
  old.cls != new.cls || old.ceiling != new.ceiling || old.policy != new.policy

/-- The table with one record replaced in its place (R30). -/
def CircuitTable.replace (t : CircuitTable) (c : Circuit) : CircuitTable :=
  { t with circuits := t.circuits.map fun d => if d.id = c.id then c else d }

/-- An accepted EDIT: the record replaced, and a sweep triggered when what a plan rests on has changed (R30). -/
def State.editCircuit (s : State) (old new : Circuit) : State :=
  let stored := s.setTable (s.table.replace new)
  if old.planDiffers new then stored.trigger else stored

/-- The class an EDIT gives, the record's own where it gives none; none for a given class that is undefined. -/
def EditBody.classOr (e : EditBody) (c : CircuitClass) : Option CircuitClass :=
  if e.givesClass then CircuitClass.ofCode (classField e.codes) else some c

/-- The late policy an EDIT gives, the record's own where it gives none; none for a given policy that is undefined. -/
def EditBody.policyOr (e : EditBody) (p : LatePolicy) : Option LatePolicy :=
  if e.givesPolicy then LatePolicy.ofCode (policyField e.codes) else some p

/-- EDIT (R25, R29, R30). -/
def serveEdit (body : List Byte) (s : State) : State × Reply :=
  match parseEdit body with
  | none => (s, Reply.invalid .length)
  | some e =>
    if s.sweeping then (s, Reply.plain .busy)
    else if 4095 < e.id then (s, Reply.invalid .id)
    else if e.classOr .prot = none ∨ e.policyOr .restoreAnyway = none then (s, Reply.invalid .badCode)
    else
      match s.table.find e.id with
      | none => (s, Reply.plain .absent)
      | some c =>
        let new := c.edited e ((e.classOr c.cls).getD c.cls) ((e.policyOr c.policy).getD c.policy)
        if c.cls.changesExtra new.cls then (s, Reply.invalid .classChannel)
        else
          (s.editCircuit c new,
            Reply.done (idBytes e.id ++
              [byteOf (flagBit (c.planDiffers new) 2 + flagBit (e.givesLabel && labelCut e.label) 1)]))

/-! ### RETIRE (R31) -/

/-- An accepted RETIRE: the record leaves the table, the cursor may be disturbed, a sweep is triggered (R31). -/
def State.retireCircuit (s : State) (c : Circuit) : State :=
  (s.setTable { circuits := s.table.circuits.filter fun d => d.id != c.id,
                cursor := disturb s.table.cursor c.channel }).trigger

/-- RETIRE (R25, R31). -/
def serveRetire (body : List Byte) (s : State) : State × Reply :=
  match parseId body with
  | none => (s, Reply.invalid .length)
  | some id =>
    if s.sweeping then (s, Reply.plain .busy)
    else if 4095 < id then (s, Reply.invalid .value)
    else
      match s.table.find id with
      | none => (s, Reply.plain .absent)
      | some c => (s.retireCircuit c, Reply.done (idBytes id ++ [byteOf c.channel]))

/-! ### READ and CHANNEL-READ (R33, R34) -/

/-- The label field of an answer: its length, 0 when absent, and its bytes (R166). -/
def labelBytes (label : Option (List Byte)) : List Byte :=
  match label with
  | none => [0]
  | some bytes => byteOf bytes.length :: bytes

/-- The DONE body of a READ (R33, R166). -/
def State.readAnswer (s : State) (c : Circuit) : List Byte :=
  let t := s.geo.circuitRoute c
  idBytes c.id ++ [byteOf c.channel, byteOf c.source, byteOf c.destination, codesByte c] ++ wordBytes c.ceiling
    ++ labelBytes c.label
    ++ [byteOf t.source, byteOf t.destination, byteOf (s.geo.westId t.start), byteOf t.hops,
        byteOf (s.geo.roleOf t).code]
    ++ wordBytes (s.geo.workingLatency c) ++ planFields (s.plan.actionFor c.id) s.sweeping

/-- READ (R33). -/
def serveRead (body : List Byte) (s : State) : State × Reply :=
  match parseId body with
  | none => (s, Reply.invalid .length)
  | some id =>
    if 4095 < id then (s, Reply.invalid .value)
    else
      match s.table.find id with
      | none => (s, Reply.plain .absent)
      | some c => (s, Reply.done (s.readAnswer c))

/-- The record of a channel whose route covers a span (R34). -/
def State.covering (s : State) (channel span : Nat) : Option Circuit :=
  (s.table.chain channel).find? fun c => s.geo.covers (s.geo.circuitRoute c) span

/-- The DONE body of a CHANNEL-READ (R34, R166). -/
def State.channelAnswer (s : State) (found : Option Circuit) : List Byte :=
  match found with
  | none => [byteOf (flagBit s.sweeping 1)]
  | some c =>
    [byteOf (128 + flagBit s.sweeping 1)] ++ idBytes c.id ++ [byteOf c.source, byteOf c.destination, codesByte c,
        byteOf (s.geo.circuitRoute c).hops]
      ++ wordBytes (s.geo.workingLatency c) ++ planFields (s.plan.actionFor c.id) s.sweeping

/-- CHANNEL-READ (R34). -/
def serveChannelRead (body : List Byte) (s : State) : State × Reply :=
  match body with
  | [channel, west] =>
    match s.geo.positionOf (idOfByte west) with
    | none => (s, Reply.invalid .value)
    | some span =>
      if 79 < channel.toNat then (s, Reply.invalid .value)
      else (s, Reply.done (s.channelAnswer (s.covering channel.toNat span)))
  | _ => (s, Reply.invalid .length)

/-! ### WALK (R35 to R40) -/

/-- The records of a window, in chain order (R35). -/
def CircuitTable.window (t : CircuitTable) (lo hi : Nat) : List Circuit :=
  t.circuits.filter fun c => decide (lo ≤ c.channel) && decide (c.channel ≤ hi)

/-- A record lies after a place (R35). -/
def Ring.liesAfter (r : Ring) (p : Place) (c : Circuit) : Bool :=
  match p with
  | .start => true
  | .finish => false
  | .mark channel span =>
    decide (channel < c.channel) || (c.channel == channel && decide (span < r.startSpan c))

/-- The place of a record. -/
def Ring.placeOf (r : Ring) (c : Circuit) : Place := .mark c.channel (r.startSpan c)

/-- What one WALK answer takes from the window. -/
structure WalkTaken where
  entries : List Circuit
  place : Place
  atEnd : Bool
  wrapped : Bool
deriving DecidableEq, Repr

/-- The place after an answer that took these records: that of the last, or a given place when it took none. -/
def Ring.lastPlace (r : Ring) (entries : List Circuit) (otherwise : Place) : Place :=
  (entries.getLast?.map r.placeOf).getD otherwise

/-- An answer with the wrap flag clear (R37). -/
def Ring.walkOn (r : Ring) (window : List Circuit) (p : Place) : WalkTaken :=
  let ahead := window.filter (r.liesAfter p)
  if 4 ≤ ahead.length then
    { entries := ahead.take 4, place := r.lastPlace (ahead.take 4) p, atEnd := false, wrapped := false }
  else { entries := ahead, place := .finish, atEnd := true, wrapped := false }

/-- An answer with the wrap flag set (R38). -/
def Ring.walkRound (r : Ring) (window : List Circuit) (p : Place) : WalkTaken :=
  let ahead := window.filter (r.liesAfter p)
  if 4 ≤ ahead.length then
    { entries := ahead.take 4, place := r.lastPlace (ahead.take 4) p, atEnd := false, wrapped := false }
  else
    let again := (window.filter fun c => !r.liesAfter p c).take (4 - ahead.length)
    { entries := ahead ++ again, place := r.lastPlace (ahead ++ again) .start, atEnd := false, wrapped := true }

/-- What an answer takes, by the cursor's wrap flag (R36). -/
def State.walkTakes (s : State) (k : Cursor) : WalkTaken :=
  let window := s.table.window k.lo k.hi
  if k.wrap then s.geo.walkRound window k.place else s.geo.walkOn window k.place

/-- A walk entry: what R40 says it holds, and no more. -/
structure WalkEntry where
  id : Nat
  channel : Nat
  source : Nat
  destination : Nat
  direction : Direction
  cls : CircuitClass
  /-- None for UNPLANNED. -/
  action : Option Action
deriving DecidableEq, Repr

/-- The walk entry of a record (R40). -/
def State.walkEntry (s : State) (c : Circuit) : WalkEntry :=
  { id := c.id
    channel := c.channel
    source := c.source
    destination := c.destination
    direction := c.direction
    cls := c.cls
    action := s.plan.actionFor c.id }

/-- The bytes of a walk entry (R166). Its layout has a whole codes byte, whose bits 3..2 hold the record's late policy, a
field that R40 keeps out of the entry: for the bytes of an answer the model follows section 9.9, which the spec names for
them (log entry 31). Bits 3..0 of the action byte, which the layout gives no meaning, are 0 (log entry 33). -/
def WalkEntry.bytes (e : WalkEntry) (policy : LatePolicy) : List Byte :=
  idBytes e.id ++ [byteOf e.channel, byteOf e.source, byteOf e.destination,
    byteOf (e.direction.code * 64 + e.cls.code * 16 + policy.code * 4), actionByte e.action]

/-- The DONE body of a WALK (R40, R166). -/
def State.walkAnswer (s : State) (w : WalkTaken) (disturbed : Bool) : List Byte :=
  [byteOf (flagBit w.atEnd 8 + flagBit w.wrapped 4 + flagBit disturbed 2 + flagBit s.sweeping 1),
    byteOf w.entries.length] ++ w.entries.flatMap fun c => (s.walkEntry c).bytes c.policy

/-- An answer filled from a cursor: the place moves, the disturbed mark is reported and cleared (R37 to R39). -/
def State.walkFrom (s : State) (k : Cursor) : State × Reply :=
  let w := s.walkTakes k
  (s.setTable { s.table with cursor := some { k with place := w.place, disturbed := false } },
    Reply.done (s.walkAnswer w k.disturbed))

/-- A new cursor with the window and wrap flag of a WALK (R36). -/
def newCursor (lo hi : Nat) (wrap : Bool) : Cursor :=
  { lo := lo, hi := hi, wrap := wrap, place := .start, disturbed := false }

/-- WALK, start or continue (R36). -/
def serveWalk (body : List Byte) (s : State) : State × Reply :=
  match body with
  | [lo, hi, flags] =>
    if 79 < lo.toNat ∨ 79 < hi.toNat ∨ hi.toNat < lo.toNat then (s, Reply.invalid .value)
    else
      match bitOf flags 1, s.table.cursor with
      | false, some k => s.walkFrom k
      | _, _ => s.walkFrom (newCursor lo.toNat hi.toNat (bitOf flags 0))
  | _ => (s, Reply.invalid .length)

end Sys2Proof.Machine
end

