-- ==== Sys2Proof/Machine/Maps.lean ====
section
/-!
DEFINITION. The selector map (section 8.4): the normal construction (R140), the passing node (R141), the switching
construction of a side (R142) and the isolated node (R143). A map is a function of the snapshot, its plan, the ring
and the records.
-/

namespace Sys2Proof.Machine

/-- The node role a served set gives (R89). -/
def Ring.roleFor (r : Ring) (served : List ServedEntry) : Role :=
  let holds (x : Side) := served.any fun e => e.span == r.facing x
  if hasBar served then .barred
  else
    match holds .east, holds .west with
    | true, true => .switchingBoth
    | true, false => .switchingEast
    | false, true => .switchingWest
    | false, false => if served.isEmpty then .idle else .passing

/-- The role switches on a side (R89). -/
def Role.switchesOn (role : Role) (x : Side) : Bool :=
  match role, x with
  | .switchingBoth, _ => true
  | .switchingEast, .east => true
  | .switchingWest, .west => true
  | _, _ => false

/-- The role is SWITCHING on a side or both. -/
def Role.switches (role : Role) : Bool := role.switchesOn .east || role.switchesOn .west

/-- What the construction of a map reads (R112, R134). -/
structure MapInput where
  ring : Ring
  snapshot : Snapshot
  plan : Plan
  circuits : List Circuit
deriving DecidableEq, Repr

/-- The snapshot role (R134). -/
def MapInput.role (i : MapInput) : Role := i.ring.roleFor i.snapshot.served

/-- The action the plan holds for a record. -/
def MapInput.action (i : MapInput) (c : Circuit) : Action := (i.plan.actionFor c.id).getD .carried

def MapInput.localRole (i : MapInput) (c : Circuit) : LocalRole := i.ring.roleOf (i.ring.circuitRoute c)

/-- The record on a channel whose route covers the span a side faces: by R24 there is at most one. -/
def MapInput.recordAt (i : MapInput) (x : Side) (channel : Nat) : Option Circuit :=
  i.circuits.find? fun c => c.channel == channel && i.ring.covers (i.ring.circuitRoute c) (i.ring.facing x)

/-- An EXTRA record with action PREEMPTED contributes no line entry (R140). -/
def MapInput.givenUp (i : MapInput) (c : Circuit) : Bool := c.cls == .extra && i.action c == .preempted

/-- The normal construction of a line entry (R140). A record whose route covers the span of the outgoing side has that
side as its route side when it ends here. -/
def MapInput.normalLine (i : MapInput) (out : Side) (channel : Nat) : Source :=
  match i.recordAt out channel with
  | none => .idle
  | some c =>
    if i.givenUp c then .idle
    else
      match i.localRole c with
      | .head => .addCircuit c.id
      | .tail => .addCircuit c.id
      | .through => .pass
      | .none => .idle

/-- What Table 35 sets on the protection channel q of side Y = opposite of X, X switching with decided state BRIDGED or
SWITCHED; none where no record claims the channel. -/
def MapInput.bridgeEntry (i : MapInput) (x : Side) (q : Nat) : Option Source :=
  let k := i.ring.style.behind q
  match i.recordAt x k with
  | none => none
  | some c =>
    match i.action c, i.localRole c with
    | .restored _ _ _, .through => some (.turn k)
    | .restored _ _ _, .head => some (.addCircuit c.id)
    | .restored _ _ _, .tail => some (.addCircuit c.id)
    | .squelched _, _ => some .squelch
    | .outside, _ => some .squelch
    | _, _ => none

/-- What Table 35 sets on the working channel k of side Y = opposite of X; none where it leaves the normal entry. -/
def MapInput.switchEntry (i : MapInput) (x : Side) (k : Nat) : Option Source :=
  match i.recordAt x k with
  | none => none
  | some c =>
    match i.action c, i.localRole c with
    | .restored _ _ _, .through =>
      if i.snapshot.decided.get x = .switched then some (.turn (i.ring.style.partner k)) else none
    | .squelched _, .through => some .squelch
    | .outside, .through => some .squelch
    | _, _ => none

/-- Side X is switching in the snapshot with decided state BRIDGED or SWITCHED (R142). -/
def MapInput.turns (i : MapInput) (x : Side) : Bool := i.role.switchesOn x && i.snapshot.decided.get x != .idle

/-- A line entry of a switching node (R142, R143): what Table 35 sets stands before what is left IDLE or normal. -/
def MapInput.switchingLine (i : MapInput) (out : Side) (channel : Nat) : Source :=
  let x := out.opposite
  if isProtection channel then ((if i.turns x then i.bridgeEntry x channel else none).getD .idle)
  else ((if i.turns x then i.switchEntry x channel else none).getD (i.normalLine out channel))

/-- A line entry of the map, by the snapshot role (R140 to R143). -/
def MapInput.line (i : MapInput) (out : Side) (channel : Nat) : Source :=
  if i.role.switches then i.switchingLine out channel
  else if i.role = .passing ∧ isProtection channel then .pass
  else i.normalLine out channel

/-- The route side of a record that ends here (R139). -/
def routeSide (c : Circuit) (role : LocalRole) : Side :=
  match role with
  | .head => c.direction.leaving
  | _ => c.direction.arriving

/-- The drop entry of a record that is HEAD or TAIL (R140), as the switch of its route side changes it (R142). -/
def MapInput.dropSource (i : MapInput) (c : Circuit) (role : LocalRole) : Option (Side × Nat) :=
  let x := routeSide c role
  if i.givenUp c then none
  else if i.role.switchesOn x ∧ i.snapshot.decided.get x = .switched ∧ !isProtection c.channel then
    match i.action c with
    | .restored _ _ _ => some (x.opposite, i.ring.style.partner c.channel)
    | .squelched _ => none
    | _ => some (x, c.channel)
  else some (x, c.channel)

/-- The drop entry of a record, if it has one (R139). -/
def MapInput.drop (i : MapInput) (c : Circuit) : Option Drop :=
  match i.localRole c with
  | .head => some { circuit := c.id, source := i.dropSource c .head }
  | .tail => some { circuit := c.id, source := i.dropSource c .tail }
  | _ => none

/-- A drop entry put before those of greater circuit id (R170). -/
def Drop.insert (d : Drop) : List Drop → List Drop
  | [] => [d]
  | e :: rest => if d.circuit ≤ e.circuit then d :: e :: rest else e :: d.insert rest

/-- The selector map a sweep builds (R139). -/
def MapInput.build (i : MapInput) : SelectorMap :=
  { lines := Pair.each fun out => (List.range 80).map (i.line out)
    drops := (i.circuits.filterMap i.drop).foldr Drop.insert []
    decided := i.snapshot.decided
    generation := none }

end Sys2Proof.Machine
end

