-- ==== Sys2Proof/Machine/Protocol.lean ====
section
/-!
DEFINITION. The Switch Protocol Unit (chapter 6): decided states, realised states, answer timers and transmit choices.
The unit works from its own copies of the Request Unit's result and of the standing notices (R92).
-/

namespace Sys2Proof.Machine

/-! ### Notices as spans and ends see them -/

/-- The span a notice names (R5, R53). -/
def Ring.spanOf (r : Ring) (n : Notice) : Option Nat :=
  match r.positionOf n.origin, r.positionOf n.target with
  | some a, some b => r.spanJoining a b
  | _, _ => none

/-- A notice whose origin is the far end of span X and which names span X (R84, R94). -/
def Ring.fromFarEnd (r : Ring) (x : Side) (n : Notice) : Bool :=
  r.positionOf n.origin == some (r.farEnd x) && r.spanOf n == some (r.facing x)

/-- The own QUIET notice for a link (R55). -/
def Ring.ownQuiet (r : Ring) (x : Side) : Notice :=
  { ringTag := r.ringTag, style := r.style, kind := .quiet, state := .idle, origin := r.selfId,
    target := r.idAt (r.farEnd x) }

/-! ### The decided state -/

/-- Span X is switch-served: the copy of the served set holds it and holds no BAR (R92). -/
def SwitchUnit.switchServed (u : SwitchUnit) (r : Ring) (x : Side) : Bool :=
  u.served.any (fun e => e.span == r.facing x) && !hasBar u.served

/-- The node is a DARK reporter of span X: the copy of its record shows the local node with counted kind DARK (R92). -/
def SwitchUnit.darkReporter (u : SwitchUnit) (r : Ring) (x : Side) : Bool :=
  match (u.sides.get x).span with
  | none => false
  | some rec => rec.reporters.any fun p => p.id == r.selfId && p.kind == some .dark

/-- An answer notice of side X stands on either link (R94). -/
def SwitchUnit.answerStands (u : SwitchUnit) (r : Ring) (x : Side) : Bool :=
  bothSides.any fun link =>
    match (u.sides.get link).standing with
    | none => false
    | some n => r.fromFarEnd x n && n.state != .idle

/-- The decided state an event leaves side X in (Table 25, R93 to R95). -/
def SwitchUnit.decide (u : SwitchUnit) (r : Ring) (x : Side) : SideState :=
  if !u.switchServed r x then .idle
  else if (u.sides.get x).decided = .switched then .switched
  else if u.darkReporter r x || u.answerStands r x then .switched
  else .bridged

/-- A side with its decided state brought up to date: the answer timer is stopped when it leaves BRIDGED, and when a
bridge episode begins (R101). -/
def SwitchSide.withDecided (d : SwitchSide) (next : SideState) : SwitchSide :=
  if d.decided = next then d else { d with decided := next, answer := .stopped }

/-! ### The transmit choice (Table 26) -/

/-- The kind of the unit's copy of the record of span X. -/
def SwitchUnit.kindOf (u : SwitchUnit) (x : Side) : Kind :=
  match (u.sides.get x).span with
  | none => .quiet
  | some rec => rec.kind

/-- The own notice about span X (R103). -/
def SwitchUnit.ownNotice (u : SwitchUnit) (r : Ring) (x : Side) : Notice :=
  { r.ownQuiet x with kind := u.kindOf x, state := (u.sides.get x).realised }

/-- The own BAR notice about span X (R104). -/
def Ring.ownBar (r : Ring) (x : Side) : Notice := { r.ownQuiet x with kind := .bar, state := .idle }

/-- What a node that forwards writes to a link: the standing notice of the opposite link, or own QUIET (R105). -/
def SwitchUnit.forwarded (u : SwitchUnit) (r : Ring) (link : Side) : Notice :=
  ((u.sides.get link.opposite).standing).getD (r.ownQuiet link)

/-- The content a link carries (Table 26, R103 to R105). -/
def SwitchUnit.content (u : SwitchUnit) (r : Ring) (link : Side) : Notice :=
  match u.role with
  | .idle => r.ownQuiet link
  | .switchingEast => u.ownNotice r .east
  | .switchingWest => u.ownNotice r .west
  | .switchingBoth => u.ownNotice r link
  | .passing => u.forwarded r link
  | .barred =>
    match u.kindOf .east == .bar, u.kindOf .west == .bar with
    | true, true => r.ownBar link
    | true, false => r.ownBar .east
    | false, true => r.ownBar .west
    | false, false => u.forwarded r link

/-- One link's choice brought up to date: the content is written to the port when it differs from the content last
written (R106). -/
def State.writeChoice (s : State) (link : Side) : State :=
  let content := s.protocol.content s.geo link
  let side := s.protocol.sides.get link
  if side.choice = some content then s
  else
    (s.setProtocol { s.protocol with sides := s.protocol.sides.set link { side with choice := some content } }).setPort
      link { s.ports.get link with transmit := some content }

/-! ### The close of an event (R92, R97, R106) -/

/-- The decided states of both sides brought up to date, together (R93 to R95). -/
def SwitchUnit.decideBoth (u : SwitchUnit) (r : Ring) : SwitchUnit :=
  { u with sides := Pair.each fun x => (u.sides.get x).withDecided (u.decide r x) }

/-- Each change of a side's decided state is a sweep trigger (R97). -/
def State.triggerIfDecided (s : State) (old : SwitchUnit) (x : Side) : State :=
  if (old.sides.get x).decided = (s.protocol.sides.get x).decided then s else s.trigger

/-- The close of every event the unit takes: decided states, their triggers, transmit choices (R92, R97, R106). -/
def State.closeSwitch (s : State) : State :=
  let decided := s.setProtocol (s.protocol.decideBoth s.geo)
  let triggered := (decided.triggerIfDecided s.protocol .east).triggerIfDecided s.protocol .west
  (triggered.writeChoice .east).writeChoice .west

/-- A settled derivation taken by the unit: its copies are replaced (R92). -/
def State.switchTakesDerivation (s : State) : State :=
  let copied (x : Side) : SwitchSide :=
    { s.protocol.sides.get x with span := s.requests.records[s.geo.facing x]? }
  (s.setProtocol { sides := Pair.each copied, served := s.requests.served, role := s.requests.role }).closeSwitch

/-- A change or removal of a link's standing notice taken by the unit (R92). -/
def State.switchTakesStanding (s : State) (link : Side) : State :=
  let side := { s.protocol.sides.get link with standing := (s.ports.get link).standing }
  (s.setProtocol { s.protocol with sides := s.protocol.sides.set link side }).closeSwitch

/-- The answer timer of a side at a completion (R101): started when the side is decided and realised BRIDGED and the
timer has not been started in this bridge episode. R98 says that a completion whose snapshot equals the realised states
changes nothing; R101 starts the timer at any completion after which both are BRIDGED, and the model follows R101 (log
entry 32, the model's choice). -/
def SwitchSide.startAnswer (d : SwitchSide) (expiry : Nat) : SwitchSide :=
  if d.decided = .bridged ∧ d.realised = .bridged ∧ d.answer = .stopped then { d with answer := .running expiry } else d

/-- Both answer timers at the close of a completion (R101). -/
def State.startAnswers (s : State) : State :=
  s.setProtocol { s.protocol with
    sides := Pair.each fun x => (s.protocol.sides.get x).startAnswer (s.after answerPeriods) }

/-- A completion from the Fabric Port: the realised states take the decided states of the completed map's snapshot,
together (R98); then the close of the event (R92, R106), and the answer timers that start (R101). -/
def State.switchTakesCompletion (s : State) (decided : Pair SideState) : State :=
  (s.setProtocol { s.protocol with
    sides := Pair.each fun x => { s.protocol.sides.get x with realised := decided.get x } }).closeSwitch.startAnswers

/-- The answer timer as a timer: it runs only in the state `running`. -/
def AnswerTimer.timer (a : AnswerTimer) : Timer :=
  match a with
  | .running expiry => some expiry
  | _ => none

/-- The expiry of a side's answer timer (R101): expired, NO-ANSWER with span X's west end id. -/
def State.answerExpires (s : State) (x : Side) : State :=
  let side := s.protocol.sides.get x
  if s.due side.answer.timer then
    ((s.setProtocol { s.protocol with sides := s.protocol.sides.set x { side with answer := .expired } }).report
      .protocol .noAnswer (s.geo.westId (s.geo.facing x))).closeSwitch
  else s

end Sys2Proof.Machine
end

