-- ==== Sys2Proof/Machine/Fabric.lean ====
section
/-!
DEFINITION. The Fabric Port (sections 8.5 and 8.6): the gate, publication, DONE and the fabric timer; and the completion
of a sweep (R138), which commits a plan and hands the Fabric Port its map.
-/

namespace Sys2Proof.Machine

/-- The generation after one: 0 and 65535 become 1 (R145). -/
def nextGeneration (g : Nat) : Nat := if 65535 ≤ g then 1 else g + 1

/-- A map presented to the fabric (R170): the model's record of the output lines. -/
def FabricPort.present (f : FabricPort) (m : SelectorMap) : FabricPort :=
  { f with presented := some m, presentations := f.presentations + 1 }

/-- A publication starts when the gate is open, none is in flight and the committed map is pending (R145). -/
def State.tryPublish (s : State) : State :=
  match s.gateOpen, s.fabric.inFlight, s.fabric.committed with
  | true, none, some ⟨map, true⟩ =>
    let g := nextGeneration s.fabric.generation
    let numbered := { map with generation := some g }
    s.setFabric ({ s.fabric with
      generation := g
      committed := some { map := numbered, pending := false }
      inFlight := some { map := numbered, expiry := s.after fabricPeriods } }.present numbered)
  | _, _, _ => s

/-- A commit (R145): the new map becomes the committed map, marked pending. -/
def State.commitMap (s : State) (m : SelectorMap) : State :=
  (s.setFabric { s.fabric with committed := some { map := m, pending := true } }).tryPublish

/-- The gate formed again after a change: when it goes from closed to open, a publication may start (R144, R148). -/
def State.gateFormed (s : State) (before : Bool) : State := if !before && s.gateOpen then s.tryPublish else s

/-- The FREEZE pin takes a level (R144). -/
def State.takeFreezePin (s : State) (asserted : Bool) : State :=
  (s.setPins { s.pins with freeze := asserted }).gateFormed s.gateOpen

/-- The freeze flag is set or cleared (R144, R160). -/
def State.setFreezeFlag (s : State) (flag : Bool) : State :=
  (s.setFabric { s.fabric with freezeFlag := flag }).gateFormed s.gateOpen

/-- A DONE return (R146): it ends the publication whose map carries its generation; any other is disregarded. -/
def State.takeDone (s : State) (g : Nat) : State :=
  match s.fabric.inFlight with
  | none => s
  | some flight =>
    if flight.map.generation = some g then
      ((s.setFabric { s.fabric with inFlight := none }).switchTakesCompletion flight.map.decided).tryPublish
    else s

/-- The committed map is pending: with a publication in flight, the waiting map (R145). -/
def FabricPort.mapPending (f : FabricPort) : Bool := (f.committed.map (·.pending)).getD false

/-- A publication that has waited 10 ms for its DONE (R147): TIMEOUT with the generation in flight; then the waiting map's
publication, or the map in flight presented again. -/
def State.timeOut (s : State) (flight : InFlight) : State :=
  let told := s.report .fabric .timeout (flight.map.generation.getD 0)
  if s.gateOpen && s.fabric.mapPending then (told.setFabric { s.fabric with inFlight := none }).tryPublish
  else
    told.setFabric ({ s.fabric with
      inFlight := some { flight with expiry := s.after fabricPeriods } }.present flight.map)

/-- The expiry of the fabric timer, which runs while a publication is in flight (R145, R147). -/
def State.fabricExpires (s : State) : State :=
  match s.fabric.inFlight with
  | none => s
  | some flight => if s.reached flight.expiry then s.timeOut flight else s

/-- The plan of the running sweep (R111, R112). -/
def State.planBuilt (s : State) (snap : Snapshot) : Plan := s.geo.buildPlan snap s.table.circuits

/-- The map of the running sweep (R139). -/
def State.mapBuilt (s : State) (snap : Snapshot) : SelectorMap :=
  MapInput.build { ring := s.geo, snapshot := snap, plan := s.planBuilt snap, circuits := s.table.circuits }

/-- The completion of a sweep (R138): plan, comparison, map, count, follow-up, in this order. -/
def State.completeSweep (s : State) : State :=
  match s.plan.sweep with
  | none => s
  | some sweep =>
    let plan := s.planBuilt sweep.snapshot
    let planned := s.setPlan { s.plan with committed := some plan }
    let compared :=
      if changesAction s.plan.committed plan then planned.setAttention planned.attention.raisePlan else planned
    let mapped := compared.commitMap (s.mapBuilt sweep.snapshot)
    let counted := mapped.setPlan { mapped.plan with sweep := none, restarts := 0, followUp := false }
    if s.plan.followUp then counted.startSweep 0 else counted

end Sys2Proof.Machine
end

