-- ==== Sys2Proof/Machine/Requests.lean ====
section
/-!
DEFINITION. The Request Unit (chapter 5): the local request of each side, the echo hold, the derivation of the span
request records, the served set and the role, the preemption tests, and the hand-on of what a settled derivation
changed.
-/

namespace Sys2Proof.Machine

/-! ### The local request -/

def LinePart.kind : LinePart → Kind
  | .none => .quiet
  | .dim => .dim
  | .dark => .dark
  | .settle => .settle

def OperatorPart.kind : OperatorPart → Kind
  | .none => .quiet
  | .ask => .ask
  | .force => .force
  | .bar => .bar

/-- The higher of two kinds (R69). -/
def Kind.higher (a b : Kind) : Kind := if a.code < b.code then b else a

/-- The effective local request: the higher of the two parts (R70). -/
def LocalRequest.effective (l : LocalRequest) : Kind := l.line.kind.higher l.operator.kind

/-- What the Request Unit reads besides its own parts: the ring, the standing notices of the links, the time. -/
structure Hearing where
  ring : Ring
  standing : Pair (Option Notice)
  now : Nat
deriving DecidableEq, Repr

def State.hearing (s : State) : Hearing :=
  { ring := s.geo, standing := Pair.each fun x => (s.ports.get x).standing, now := s.now }

/-! ### The echo hold (R84) -/

/-- The links whose standing notice is a far-end notice of side X of a kind other than QUIET. -/
def Hearing.farEndLinks (h : Hearing) (x : Side) : List Side :=
  bothSides.filter fun link =>
    match h.standing.get link with
    | none => false
    | some n => h.ring.fromFarEnd x n && n.kind != .quiet

/-- The echo hold as a fall of side X starts it afresh: idle when no link holds such a notice. -/
def Hearing.startEcho (h : Hearing) (x : Side) : Option EchoHold :=
  let links := h.farEndLinks x
  if links.isEmpty then none else some { links := links, expiry := h.now + echoHoldPeriods }

/-- The timer of an echo hold: stopped while the hold is idle (R84). -/
def LocalRequest.echoTimer (l : LocalRequest) : Timer := l.echo.map (·.expiry)

/-- A link leaves the set-aside list; an empty list makes the hold idle. -/
def LocalRequest.leaveEcho (l : LocalRequest) (link : Side) : LocalRequest :=
  match l.echo with
  | none => l
  | some hold =>
    let links := hold.links.filter (· != link)
    { l with echo := if links.isEmpty then none else some { hold with links := links } }

/-- The set-aside list of a side holds a link. -/
def LocalRequest.setsAside (l : LocalRequest) (link : Side) : Bool :=
  match l.echo with
  | none => false
  | some hold => hold.links.contains link

/-- The standing notice of a link is set aside by the echo hold of the side whose far-end notice it is (R83, R84). -/
def Hearing.aside (h : Hearing) (sides : Pair LocalRequest) (link : Side) (n : Notice) : Bool :=
  bothSides.any fun x => h.ring.fromFarEnd x n && (sides.get x).setsAside link

/-! ### Records (R82, R83) -/

/-- What one standing notice contributes to a reporter: its counted kind, none when set aside, and its state. -/
structure Contribution where
  kind : Option Kind
  state : SideState
deriving DecidableEq, Repr

/-- The more advanced of two states (R83). -/
def SideState.furthest (a b : SideState) : SideState := if a.code < b.code then b else a

/-- Two contributions of one origin to one span, merged (R83). -/
def Contribution.merge (a b : Contribution) : Contribution :=
  match a.kind, b.kind with
  | none, none => { kind := none, state := a.state.furthest b.state }
  | some _, none => a
  | none, some _ => b
  | some j, some k =>
    if j = k then { kind := some k, state := a.state.furthest b.state } else if j.code < k.code then b else a

/-- What the standing notice of a link contributes as a notice of the node at position p about a span (R83). -/
def Hearing.contribution (h : Hearing) (sides : Pair LocalRequest) (span p : Nat) (link : Side) : Option Contribution :=
  match h.standing.get link with
  | none => none
  | some n =>
    if n.kind != .quiet && h.ring.positionOf n.origin == some p && h.ring.spanOf n == some span then
      some { kind := if h.aside sides link n then none else some n.kind, state := n.state }
    else none

/-- What the notices of both links contribute, merged (R83). -/
def Hearing.heardFrom (h : Hearing) (sides : Pair LocalRequest) (span p : Nat) : Option Contribution :=
  match h.contribution sides span p .east, h.contribution sides span p .west with
  | none, b => b
  | a, none => a
  | some a, some b => some (a.merge b)

/-- The side that faces a local span: E for span 0, W otherwise (R6). -/
def sideFacing (span : Nat) : Side := if span = 0 then .east else .west

/-- The reporter at one end of a span, if there is one (R83). The local node reports only by its own request. -/
def Hearing.reporterAt (h : Hearing) (sides : Pair LocalRequest) (span p : Nat) : Option Reporter :=
  if p = 0 then
    let kind := (sides.get (sideFacing span)).effective
    if kind = .quiet then none else some { id := h.ring.selfId, kind := some kind, state := none }
  else
    (h.heardFrom sides span p).map fun c => { id := h.ring.idAt p, kind := c.kind, state := some c.state }

/-- The record of a span, not yet marked served (R83): reporters west end first. -/
def Hearing.record (h : Hearing) (sides : Pair LocalRequest) (span : Nat) : SpanRecord :=
  let reporters := [span, h.ring.next span].filterMap (h.reporterAt sides span)
  { kind := reporters.foldl (fun k p => k.higher (p.kind.getD .quiet)) .quiet
    reporters := reporters
    dark := reporters.any fun p => p.kind == some .dark
    served := false }

/-! ### The served set (R86, R87) -/

/-- The report order (R87): higher kind, then smaller lower end id, then smaller other end id. -/
def Ring.reportedBefore (r : Ring) (a b : ServedEntry) : Bool :=
  decide (b.kind.code < a.kind.code)
    || (a.kind == b.kind
      && (decide (r.lowerId a.span < r.lowerId b.span)
        || (decide (r.lowerId a.span = r.lowerId b.span) && decide (r.otherId a.span < r.otherId b.span))))

/-- An entry put in its place in report order. -/
def Ring.insertReported (r : Ring) (e : ServedEntry) : List ServedEntry → List ServedEntry
  | [] => [e]
  | f :: rest => if r.reportedBefore e f then e :: f :: rest else f :: r.insertReported e rest

/-- Entries in report order (R87). -/
def Ring.reportOrder (r : Ring) (entries : List ServedEntry) : List ServedEntry := entries.foldr r.insertReported []

/-- FORCE and DARK are segmenting (Table 22). -/
def Kind.segmenting (k : Kind) : Bool := k == .force || k == .dark

/-- DIM, ASK and SETTLE are single-span (Table 22). -/
def Kind.singleSpan (k : Kind) : Bool := k == .dim || k == .ask || k == .settle

/-- The served set of the records' kinds, by the first case of R86 that applies. -/
def Ring.servedSet (r : Ring) (entries : List ServedEntry) : List ServedEntry :=
  if entries.any (fun e => e.kind == .bar) then entries.filter fun e => e.kind == .bar
  else if entries.any (fun e => e.kind.segmenting) then entries.filter fun e => e.kind.segmenting
  else (r.reportOrder (entries.filter fun e => e.kind.singleSpan)).take 1

/-- Each span with the kind of its record. -/
def Hearing.kinds (h : Hearing) (sides : Pair LocalRequest) : List ServedEntry :=
  (List.range h.ring.size).map fun s => { span := s, kind := (h.record sides s).kind }

/-- One pass of the derivation, steps 1 to 3 of R85. -/
def Hearing.derivePass (h : Hearing) (sides : Pair LocalRequest) : RequestUnit :=
  let served := h.ring.servedSet (h.kinds sides)
  { sides := sides
    records := (List.range h.ring.size).map fun s =>
      { h.record sides s with served := served.any fun e => e.span == s }
    served := served
    role := h.ring.roleFor served }

/-! ### The preemption tests and the settled derivation (R74, R80, R85) -/

/-- Span X is in the served set. -/
def Ring.isServed (r : Ring) (served : List ServedEntry) (x : Side) : Bool := served.any fun e => e.span == r.facing x

/-- A SETTLE that is not the effective request, or whose span is not served (R74). -/
def LocalRequest.losesSettle (l : LocalRequest) (served : Bool) : Bool :=
  l.line == .settle && (l.effective != .settle || !served)

/-- An ASK whose span is not served (R80). -/
def LocalRequest.losesAsk (l : LocalRequest) (served : Bool) : Bool := l.operator == .ask && !served

/-- Something of a side is dropped at the close of a pass. -/
def LocalRequest.drops (l : LocalRequest) (served : Bool) : Bool := l.losesSettle served || l.losesAsk served

/-- The local request of side X after the preemption tests: a drop is a fall of its side, which starts the echo hold
(R84, R85). -/
def Hearing.afterDrops (h : Hearing) (x : Side) (l : LocalRequest) (served : Bool) : LocalRequest :=
  if l.drops served then
    { line := if l.losesSettle served then .none else l.line
      operator := if l.losesAsk served then .none else l.operator
      settleTimer := if l.losesSettle served then none else l.settleTimer
      echo := h.startEcho x }
  else l

/-- The derivation repeated until no part is dropped (R85): at most five passes. -/
def Hearing.settle (h : Hearing) : Nat → Pair LocalRequest → RequestUnit
  | 0, sides => h.derivePass sides
  | passes + 1, sides =>
    let unit := h.derivePass sides
    let served (x : Side) : Bool := h.ring.isServed unit.served x
    if (sides.get .east).drops (served .east) || (sides.get .west).drops (served .west) then
      h.settle passes (Pair.each fun x => h.afterDrops x (sides.get x) (served x))
    else unit

/-- The settled derivation of R85. -/
def Hearing.derive (h : Hearing) (sides : Pair LocalRequest) : RequestUnit := h.settle 5 sides

/-! ### What a settled derivation hands on (R88) -/

/-- The kind, reporters and states of the record of a span. -/
def RequestUnit.reportOn (u : RequestUnit) (span : Nat) : Option (Kind × List Reporter) :=
  (u.records[span]?).map fun rec => (rec.kind, rec.reporters)

/-- The Plan Engine is handed a change of the served set, or of the known-dark set (R88). -/
def RequestUnit.concernsPlan (old new : RequestUnit) : Bool :=
  old.served != new.served || knownDark old.records != knownDark new.records

/-- The Switch Protocol Unit is handed a change of the served set, of a local record or of the role (R88). -/
def RequestUnit.concernsSwitch (old new : RequestUnit) (r : Ring) : Bool :=
  old.served != new.served || old.role != new.role
    || bothSides.any fun x => old.reportOn (r.facing x) != new.reportOn (r.facing x)

/-- The hand-on of a settled derivation: where both the Plan Engine and the Switch Protocol Unit are handed something,
they take it in either order (R88, R97). -/
def State.handOn (s : State) (old : RequestUnit) : State :=
  match old.concernsPlan s.requests, old.concernsSwitch s.requests s.geo with
  | false, false => s
  | true, false => s.trigger
  | false, true => s.switchTakesDerivation
  | true, true =>
    if s.nextOrder.planFirst then s.dropOrder.trigger.switchTakesDerivation
    else s.dropOrder.switchTakesDerivation.trigger

/-- The Request Unit derives again from its parts as given, and hands on what has changed (R85, R88). -/
def State.deriveFrom (s : State) (sides : Pair LocalRequest) : State :=
  (s.setRequests (s.hearing.derive sides)).handOn s.requests

/-! ### The events of the unit -/

/-- The echo hold after a change of the parts of side X (R70, R84): started afresh by a fall, idle after a rise. -/
def Hearing.echoAfter (h : Hearing) (x : Side) (old new : LocalRequest) : Option EchoHold :=
  if new.effective.code < old.effective.code then h.startEcho x
  else if old.effective.code < new.effective.code then none
  else new.echo

/-- A change of the parts of side X, with its fall or rise, and the derivation it leads to (R70, R84, R85). -/
def State.changeLocal (s : State) (x : Side) (new : LocalRequest) : State :=
  let old := s.requests.sides.get x
  s.deriveFrom (s.requests.sides.set x { new with echo := s.hearing.echoAfter x old new })

/-- A change of the declared level of side X (R71, R72): the line part it gives. The decided state is read as it
stands. -/
def State.requestTakesLevel (s : State) (x : Side) (level : Level) : State :=
  let l := s.requests.sides.get x
  match level with
  | .dim => s.changeLocal x { l with line := .dim, settleTimer := none }
  | .dark => s.changeLocal x { l with line := .dark, settleTimer := none }
  | .clear =>
    if (s.protocol.sides.get x).decided = .idle then s.changeLocal x { l with line := .none, settleTimer := none }
    else
      s.changeLocal x { l with
        line := .settle
        settleTimer := if s.settings.settle = 0 then none else some (s.after (s.settings.settle * periodsPerSecond)) }

/-- A change or removal of a link's standing notice (R84, R85): the link leaves the set-aside lists. -/
def State.requestTakesStanding (s : State) (link : Side) : State :=
  s.deriveFrom (Pair.each fun x => (s.requests.sides.get x).leaveEcho link)

/-- The expiry of a settle timer (R73). -/
def State.settleExpires (s : State) (x : Side) : State :=
  let l := s.requests.sides.get x
  if s.due l.settleTimer then s.changeLocal x { l with line := .none, settleTimer := none } else s

/-- The expiry of an echo hold (R84). -/
def State.echoExpires (s : State) (x : Side) : State :=
  let l := s.requests.sides.get x
  if s.due l.echoTimer then s.deriveFrom (s.requests.sides.set x { l with echo := none }) else s

end Sys2Proof.Machine
end

