-- ==== Sys2Proof/Machine/Monitors.lean ====
section
/-!
DEFINITION. The Line Monitors (chapter 3): the raw level, the hold-off timers, the soak timer and the declared level.
-/

namespace Sys2Proof.Machine

/-- The raw level of side X from its inputs as they stand (R43). -/
def State.rawLevel (s : State) (x : Side) : Level :=
  let rx := s.pins.receivers.get x
  if rx.los || !rx.lock then .dark
  else if s.settings.dimThreshold ≤ rx.grade.toNat ∨ (s.ports.get x).link = .down then .dim
  else .clear

/-- The declared level of a monitor is set, and the change, if it is one, is handed to the Request Unit (R49). -/
def State.declare (s : State) (x : Side) (old : Level) : State :=
  let level := (s.monitors.get x).declared
  if level = old then s else s.requestTakesLevel x level

/-- A hold-off timer that a raw change starts: the expiry one hold-off from now (R45, R46). -/
def State.holdOffTimer (s : State) : Timer := some (s.after (s.settings.holdOff * periodsPerHoldOffUnit))

/-- The monitor after a raw change that raises the declared level at once: a timer that would start with a hold-off of
0 declares its level within the change (R47). -/
def State.raisedAtOnce (s : State) (m : Monitor) : Level :=
  if s.settings.holdOff ≠ 0 then m.declared
  else if m.raw = .dark ∧ m.declared ≠ .dark then .dark
  else if m.raw = .dim ∧ m.declared = .clear ∧ m.dimTimer = none then .dim
  else m.declared

/-- The DIM timer after a raw change (R45): it runs while raw is DIM or DARK and declared is CLEAR, and keeps the expiry
it was started with. -/
def State.dimTimerAfter (s : State) (m : Monitor) : Timer :=
  if m.raw = .clear ∨ m.declared ≠ .clear then none
  else
    match m.dimTimer with
    | none => s.holdOffTimer
    | some expiry => some expiry

/-- The DARK timer after a raw change (R46): it runs while raw is DARK and declared is below DARK. -/
def State.darkTimerAfter (s : State) (m : Monitor) : Timer :=
  if m.raw = .dark ∧ m.declared ≠ .dark then s.holdOffTimer else none

/-- The soak timer after a raw change (R48): started or restarted when raw is below declared, stopped otherwise. -/
def State.soakTimerAfter (s : State) (m : Monitor) : Timer :=
  if m.raw.code < m.declared.code then some (s.after (s.settings.clearSoak * periodsPerSecond)) else none

/-- The monitor after a raw change to a level (R45 to R48, Table 15). -/
def State.monitorAfter (s : State) (m : Monitor) (raw : Level) : Monitor :=
  let changed := { m with raw := raw }
  let raised := { changed with declared := s.raisedAtOnce changed }
  { raised with
    dimTimer := s.dimTimerAfter raised
    darkTimer := s.darkTimerAfter raised
    soakTimer := s.soakTimerAfter raised }

/-- The monitor of side X forms its raw level again (R42, R43). It runs only while the load state is LOADED (R44), and
a level equal to the one held has no further effect. -/
def State.formRaw (s : State) (x : Side) : State :=
  let m := s.monitors.get x
  let raw := s.rawLevel x
  if !s.running || raw == m.raw then s
  else (s.setMonitor x (s.monitorAfter m raw)).declare x m.declared

/-- The expiry of the DIM timer: the declared level becomes DIM (R45). -/
def State.dimExpires (s : State) (x : Side) : State :=
  let m := s.monitors.get x
  if s.due m.dimTimer then (s.setMonitor x { m with declared := .dim, dimTimer := none }).declare x m.declared else s

/-- The expiry of the DARK timer: the declared level becomes DARK, and the DIM timer is stopped (R45, R46). -/
def State.darkExpires (s : State) (x : Side) : State :=
  let m := s.monitors.get x
  if s.due m.darkTimer then
    (s.setMonitor x { m with declared := .dark, dimTimer := none, darkTimer := none }).declare x m.declared
  else s

/-- The expiry of the soak timer: the declared level is set to the raw level (R48). -/
def State.soakExpires (s : State) (x : Side) : State :=
  let m := s.monitors.get x
  if s.due m.soakTimer then (s.setMonitor x { m with declared := m.raw, soakTimer := none }).declare x m.declared
  else s

end Sys2Proof.Machine
end

