-- ==== Sys2Proof/Machine/Links.lean ====
section
/-!
DEFINITION. The Supervisory Link Ports (chapter 4): transmission, the receive checks, the receive run, the standing
notice and the link state.
-/

namespace Sys2Proof.Machine

/-! ### The receive checks -/

/-- What a received frame is sorted as (Table 19). -/
inductive Received where
  | bad (kind : FaultKind)
  | rejected (kind : FaultKind) (origin : Nat)
  | accepted (notice : Notice)
deriving DecidableEq, Repr

/-- The checks of R58 and R59 on a frame that is not bad, in order. -/
def Ring.checkNotice (r : Ring) (f : ArrivedFrame) : Received :=
  if f.ringTag ≠ r.ringTag then .rejected .ringTag f.origin
  else if f.style ≠ r.style then .rejected .mapStyle f.origin
  else
    match r.positionOf f.origin, r.positionOf f.target with
    | some a, some b =>
      match r.spanJoining a b, Kind.ofCode f.kindCode, SideState.ofCode f.stateCode with
      | some _, some kind, some state =>
        if f.origin = r.selfId then .rejected .malformed f.origin
        else
          .accepted { ringTag := f.ringTag, style := f.style, kind := kind, state := state, origin := f.origin,
                      target := f.target }
      | _, _, _ => .rejected .malformed f.origin
    | _, _ => .rejected .unknownNode f.origin

/-- An arriving frame sorted (R57, R58). -/
def Ring.sortFrame (r : Ring) (frame : List Byte) : Received :=
  match deframe frame with
  | none => .bad .framing
  | some f => if !f.checks then .bad .check else r.checkNotice f

/-! ### The receive run (R60) -/

/-- Two contents are equal when kind, state, origin id and target id are equal. -/
def Notice.sameContent (a b : Notice) : Bool :=
  a.kind == b.kind && a.state == b.state && a.origin == b.origin && a.target == b.target

/-- The run after a good accepted frame. -/
def nextRun (run : Option Run) (n : Notice) : Run :=
  match run with
  | none => { candidate := n, count := 1 }
  | some old => if old.candidate.sameContent n then { old with count := min (old.count + 1) 3 }
                else { candidate := n, count := 1 }

/-- The frame brings the count of the run to 3 (R61). -/
def completesRun (run : Option Run) (n : Notice) : Bool :=
  match run with
  | none => false
  | some old => old.candidate.sameContent n && old.count == 2

/-- The standing notice is absent or different from the candidate (R61). -/
def Port.newContent (p : Port) (n : Notice) : Bool :=
  match p.standing with
  | none => true
  | some old => !old.sameContent n

/-! ### A change of the standing notice, as its takers take it -/

/-- The takers of a change in the order chosen (R61, R63, R64, R92). -/
def takersInOrder : TakingOrder → List Taker
  | .switchRequestLine => [.switchUnit, .requestUnit, .lineMonitor]
  | .switchLineRequest => [.switchUnit, .lineMonitor, .requestUnit]
  | .requestSwitchLine => [.requestUnit, .switchUnit, .lineMonitor]
  | .requestLineSwitch => [.requestUnit, .lineMonitor, .switchUnit]
  | .lineSwitchRequest => [.lineMonitor, .switchUnit, .requestUnit]
  | .lineRequestSwitch => [.lineMonitor, .requestUnit, .switchUnit]

/-- One block takes the change of link X's standing notice. The Line Monitor takes a change of the link state alone
(R42, R63, R64). -/
def State.takesStanding (x : Side) (linkChanged : Bool) (s : State) (t : Taker) : State :=
  match t with
  | .switchUnit => s.switchTakesStanding x
  | .requestUnit => s.requestTakesStanding x
  | .lineMonitor => if linkChanged then s.formRaw x else s

/-- The change of link X's standing notice handed to its takers. -/
def State.handStanding (s : State) (x : Side) (linkChanged : Bool) : State :=
  (takersInOrder s.nextOrder.takers).foldl (State.takesStanding x linkChanged) s.dropOrder

/-! ### Reception -/

/-- A bad or rejected frame (R57, R58): the run is emptied and the fault reported; nothing else of the port changes. -/
def State.discardFrame (s : State) (x : Side) (kind : FaultKind) (detail : Nat) : State :=
  (s.setPort x { s.ports.get x with run := none }).report (linkGroup x) kind detail

/-- The link-down timer after a good accepted frame: a full 24 notice periods while the link is UP (R62). -/
def State.downTimerAfter (s : State) (p : Port) : Timer :=
  match p.link with
  | .up => some (s.after linkDownPeriods)
  | .down => p.downTimer

/-- A good accepted frame (R60 to R62, R64). -/
def State.acceptFrame (s : State) (x : Side) (n : Notice) : State :=
  let p := s.ports.get x
  let run := nextRun p.run n
  if completesRun p.run n && p.newContent n then
    (s.setPort x { p with run := some run, standing := some run.candidate, link := .up,
                          downTimer := some (s.after linkDownPeriods) }).handStanding x (p.link == .down)
  else s.setPort x { p with run := some run, downTimer := s.downTimerAfter p }

/-- An arriving frame at port X (R56, R57). -/
def State.receive (s : State) (x : Side) (frame : List Byte) : State :=
  if !s.running then s
  else
    match s.geo.sortFrame frame with
    | .bad kind => s.discardFrame x kind 0
    | .rejected kind origin => s.discardFrame x kind origin
    | .accepted n => s.acceptFrame x n

/-- The expiry of the link-down timer (R63): standing notice removed, run emptied, link DOWN, DOWN reported with the
origin of the notice removed. A good accepted frame taken first restarts the timer, which then does not expire. -/
def State.linkExpires (s : State) (x : Side) : State :=
  let p := s.ports.get x
  if s.due p.downTimer then
    (((s.setPort x { p with run := none, standing := none, link := .down, downTimer := none }).report
      (linkGroup x) .down ((p.standing.map (·.origin)).getD 0)).handStanding x (p.link == .up))
  else s

/-! ### Transmission -/

/-- A port at the start of a notice period: it sends its transmit content as it stands, or idle fill while silent
(R54, R55). -/
def Port.sends (p : Port) (running : Bool) : Port := { p with sent := if running then p.transmit else none }

/-- A notice period begins (R54). -/
def State.beginPeriod (s : State) : State :=
  (s.setPorts (Pair.each fun x => (s.ports.get x).sends s.running)).setNow (s.now + 1)

end Sys2Proof.Machine
end

