-- ==== Sys2Proof/Machine/Management.lean ====
section
/-!
DEFINITION. The host's other requests (chapters 1, 5, 9, 10, 11): SPAN-READ, SPAN-DELAY, OPERATOR, SETTINGS, FREEZE, ARM,
STATUS, FAULT-READ and FAULT-CLEAR, each after the port's checks of R156 with its body's bytes still to be read.
-/

namespace Sys2Proof.Machine

/-! ### SPAN-READ and SPAN-DELAY (R12, R15) -/

/-- A reporter entry of an answer: id, counted kind or 0Fh set aside, state or 3 absent (R167). -/
def Reporter.bytes (p : Reporter) : List Byte :=
  [byteOf p.id, byteOf ((p.kind.map Kind.code).getD 15), byteOf ((p.state.map SideState.code).getD 3)]

/-- The record of a span; a record with no reporters where there is none (R82). -/
def State.recordOf (s : State) (span : Nat) : SpanRecord :=
  (s.requests.records[span]?).getD { kind := .quiet, reporters := [], dark := false, served := false }

/-- The DONE body of a SPAN-READ (R15, R167). -/
def State.spanAnswer (s : State) (span : Nat) : List Byte :=
  let r := s.geo
  let held := s.recordOf span
  [byteOf (r.westId span), byteOf (r.eastId span), byteOf (r.lowerId span)] ++ wordBytes (Ring.delayOf r.delays span)
    ++ [byteOf r.size, byteOf (r.ringTag * 16 + r.style.code * 8), byteOf r.transit, byteOf held.kind.code,
        byteOf (flagBit held.dark 2 + flagBit held.served 1), byteOf held.reporters.length]
    ++ held.reporters.flatMap Reporter.bytes

/-- SPAN-READ (R15). -/
def serveSpanRead (body : List Byte) (s : State) : State × Reply :=
  match body with
  | [west] =>
    match s.geo.positionOf (idOfByte west) with
    | none => (s, Reply.invalid .value)
    | some span => (s, Reply.done (s.spanAnswer span))
  | _ => (s, Reply.invalid .length)

/-- The greatest span delay (R11). -/
def maxDelay : Nat := 4095

/-- A span delay stored, clamped (R12). -/
def Ring.withDelay (r : Ring) (span delay : Nat) : Ring := { r with delays := r.delays.set span (min delay maxDelay) }

/-- An accepted SPAN-DELAY: the delay stored, and a sweep triggered when it changes (R12). -/
def State.setDelay (s : State) (span delay : Nat) : State :=
  let stored := s.setRing (s.ring.map fun r => r.withDelay span delay)
  if Ring.delayOf s.geo.delays span = min delay maxDelay then stored else stored.trigger

/-- SPAN-DELAY (R12). -/
def serveSpanDelay (body : List Byte) (s : State) : State × Reply :=
  match body with
  | [west, d1, d0] =>
    if s.sweeping then (s, Reply.plain .busy)
    else
      match s.geo.positionOf (idOfByte west) with
      | none => (s, Reply.invalid .value)
      | some span =>
        let delay := wordOf d1 d0
        (s.setDelay span delay,
          Reply.done ([byteOf (s.geo.westId span), byteOf (s.geo.eastId span)] ++ wordBytes (min delay maxDelay)
            ++ [byteOf (flagBit (decide (maxDelay < delay)) 1)]))
  | _ => (s, Reply.invalid .length)

/-! ### OPERATOR (R76 to R81) -/

/-- The served spans that block an operator request on side X: BAR spans block a FORCE (R78); spans of kind ASK or higher
other than span X block an ASK (R79); nothing blocks a BAR (R77). -/
def State.blocking (s : State) (x : Side) (part : OperatorPart) : List ServedEntry :=
  match part with
  | .force => s.requests.served.filter fun e => e.kind == .bar
  | .ask => s.requests.served.filter fun e => decide (Kind.ask.code ≤ e.kind.code) && e.span != s.geo.facing x
  | _ => []

/-- The settle timer as reported: 0 stopped, 1 running, 2 non-reverting (R90, R167). -/
def LocalRequest.settleCode (l : LocalRequest) : Nat :=
  if l.settleTimer.isSome then 1 else if l.line = .settle then 2 else 0

/-- The DONE body of an OPERATOR (R76, R167). -/
def State.operatorAnswer (s : State) (x : Side) : List Byte :=
  let l := s.requests.sides.get x
  [byteOf l.line.code, byteOf l.operator.code, byteOf l.effective.code,
    byteOf (flagBit (s.geo.isServed s.requests.served x) 1), byteOf l.settleCode] ++ wordBytes (s.secondsLeft l.settleTimer)

/-- An OUTRANKED answer names the first blocking span in report order (R76, R165). -/
def State.outranked (s : State) (e : ServedEntry) : Reply :=
  ⟨.outranked, [byteOf (s.geo.westId e.span), byteOf (s.geo.eastId e.span), byteOf e.kind.code]⟩

/-- The operator part of a side set or replaced (R76): for the kind already held, nothing changes. -/
def State.setOperator (s : State) (x : Side) (part : OperatorPart) : State :=
  let l := s.requests.sides.get x
  if l.operator = part then s else s.changeLocal x { l with operator := part }

/-- A BAR, FORCE or ASK (R76 to R79). -/
def State.operate (s : State) (x : Side) (part : OperatorPart) : State × Reply :=
  match s.geo.reportOrder (s.blocking x part) with
  | e :: _ => (s, s.outranked e)
  | [] => (s.setOperator x part, Reply.done ((s.setOperator x part).operatorAnswer x))

/-- A RELEASE has something to clear (R81). -/
def LocalRequest.releasable (l : LocalRequest) : Bool := l.operator != .none || l.line == .settle

/-- The parts a RELEASE leaves (R81): no operator part, no SETTLE; a line part of DIM or DARK stands. -/
def LocalRequest.released (l : LocalRequest) : LocalRequest :=
  if l.line = .settle then { l with operator := .none, line := .none, settleTimer := none }
  else { l with operator := .none }

/-- A RELEASE (R81). -/
def State.releaseSide (s : State) (x : Side) : State × Reply :=
  let l := s.requests.sides.get x
  if l.releasable then
    let done := s.changeLocal x l.released
    (done, Reply.done (done.operatorAnswer x))
  else (s, Reply.plain .absent)

/-- OPERATOR (R76): the action its body names. -/
def serveOperator (body : List Byte) (s : State) : State × Reply :=
  match body with
  | [side, action] =>
    match sideOfByte side, OperatorPart.ofByte action with
    | some x, some .none => s.releaseSide x
    | some x, some part => s.operate x part
    | _, _ => (s, Reply.invalid .value)
  | _ => (s, Reply.invalid .length)

/-! ### Settings (R158, R159) -/

/-- A value brought into its range. -/
def clampTo (low high n : Nat) : Nat := max low (min n high)

/-- SETTINGS-READ (R158). -/
def serveSettingsRead (body : List Byte) (s : State) : State × Reply :=
  if body.isEmpty then (s, Reply.done s.settingsBytes) else (s, Reply.invalid .length)

/-- The settings after the given values, clamped (R50, R75, R159). -/
def Settings.given (t : Settings) (b : SettingsBody) : Settings :=
  { holdOff := if b.gives 5 then clampTo 0 100 b.holdOff else t.holdOff
    clearSoak := if b.gives 4 then clampTo 1 60 b.clearSoak else t.clearSoak
    settle := if b.gives 3 then clampTo 0 720 b.settle else t.settle
    dimThreshold := if b.gives 2 then clampTo 1 15 b.dimThreshold else t.dimThreshold }

/-- The node transit delay after the given value, clamped (R14). -/
def Ring.givenTransit (r : Ring) (b : SettingsBody) : Nat := if b.gives 1 then clampTo 0 15 b.transit else r.transit

/-- The clamped flags, bits as the given marks (R159, R167). -/
def SettingsBody.clamped (b : SettingsBody) : Nat :=
  flagBit (b.gives 5 && b.holdOff != clampTo 0 100 b.holdOff) 32
    + flagBit (b.gives 4 && b.clearSoak != clampTo 1 60 b.clearSoak) 16
    + flagBit (b.gives 3 && b.settle != clampTo 0 720 b.settle) 8
    + flagBit (b.gives 2 && b.dimThreshold != clampTo 1 15 b.dimThreshold) 4
    + flagBit (b.gives 1 && b.transit != clampTo 0 15 b.transit) 2

/-- Every given setting stored at once, all together (R159). -/
def State.storeSettings (s : State) (b : SettingsBody) : State :=
  ((s.setSettings (s.settings.given b)).setRing (s.ring.map fun r => { r with transit := r.givenTransit b })).setAttention
    { s.attention with masks := if b.gives 0 then Causes.ofByte b.masks else s.attention.masks }

/-- The request changes the node transit delay (R14, R159). -/
def State.changesTransit (s : State) (b : SettingsBody) : Bool := s.geo.givenTransit b != s.geo.transit

/-- An accepted SETTINGS-WRITE (R159): the settings stored; a changed node transit delay is a trigger; a changed DIM
threshold makes each monitor form its raw level again (R51). -/
def State.writeSettings (s : State) (b : SettingsBody) : State :=
  let stored := s.storeSettings b
  let triggered := if s.changesTransit b then stored.trigger else stored
  if stored.settings.dimThreshold = s.settings.dimThreshold then triggered
  else triggered.eachSide fun x t => t.formRaw x

/-- SETTINGS-WRITE (R159). -/
def serveSettingsWrite (body : List Byte) (s : State) : State × Reply :=
  match parseSettings body with
  | none => (s, Reply.invalid .length)
  | some b =>
    if s.sweeping then (s, Reply.plain .busy)
    else
      (s.writeSettings b,
        Reply.done ((s.writeSettings b).settingsBytes ++ [byteOf b.clamped, byteOf (flagBit (s.changesTransit b) 1)]))

/-! ### FREEZE and ARM (R160, R181) -/

/-- The DONE body of a FREEZE (R160, R167). -/
def State.freezeAnswer (s : State) : List Byte :=
  [byteOf (flagBit s.pins.freeze 4 + flagBit s.fabric.freezeFlag 2 + flagBit s.gateOpen 1)]

/-- FREEZE (R160). -/
def serveFreeze (body : List Byte) (s : State) : State × Reply :=
  match body with
  | [action] =>
    match action.toNat with
    | 0 => (s.setFreezeFlag false, Reply.done (s.setFreezeFlag false).freezeAnswer)
    | 1 => (s.setFreezeFlag true, Reply.done (s.setFreezeFlag true).freezeAnswer)
    | _ => (s, Reply.invalid .value)
  | _ => (s, Reply.invalid .length)

/-- The armed flag is set (R181): the gate is formed again and a sweep is triggered; when it is already set, nothing
changes. -/
def State.armPart (s : State) : State :=
  if s.loader.armed then s else ((s.setLoader { s.loader with armed := true }).gateFormed s.gateOpen).trigger

/-- ARM (R181). -/
def serveArm (body : List Byte) (s : State) : State × Reply :=
  if body.isEmpty then
    (s.armPart, Reply.done [byteOf (flagBit s.armPart.loader.armed 2 + flagBit s.armPart.gateOpen 1)])
  else (s, Reply.invalid .length)

/-! ### FAULT-READ and FAULT-CLEAR (R175, R176) -/

/-- FAULT-READ (R175). The spec gives a clear record the kind 0 and no detail; its detail bytes are sent as 0 (log entry
34, the model's choice). -/
def serveFaultRead (body : List Byte) (s : State) : State × Reply :=
  match body with
  | [group] =>
    match groupOfByte group with
    | none => (s, Reply.invalid .value)
    | some g =>
      let record := s.attention.records.ofGroup g
      (s, Reply.done ([group, byteOf ((record.map (·.kind.code)).getD 0)] ++ wordBytes ((record.map (·.detail)).getD 0)
        ++ [byteOf (flagBit s.attention.moreFaults 1)]))
  | _ => (s, Reply.invalid .length)

/-- The Attention Unit after a FAULT-CLEAR; none for a value above 7 (R176). -/
def Attention.cleared (a : Attention) (what : Byte) : Option Attention :=
  match groupOfByte what with
  | some g => some (a.clearGroup g)
  | none => if what.toNat = 6 then some a.clearPlan else if what.toNat = 7 then some a.clearAll else none

/-- FAULT-CLEAR (R176). -/
def serveFaultClear (body : List Byte) (s : State) : State × Reply :=
  match body with
  | [what] =>
    match s.attention.cleared what with
    | none => (s, Reply.invalid .value)
    | some a => (s.setAttention a, Reply.done [byteOf a.causes.toNat, byteOf (flagBit a.moreFaults 1)])
  | _ => (s, Reply.invalid .length)

/-! ### STATUS (R157, R168) -/

def Role.code : Role → Nat
  | .idle => 0
  | .passing => 1
  | .barred => 2
  | _ => 3

/-- The view of the committed plan: 0 no plan committed, 1 FULL, 2 PARTIAL (R168). -/
def PlanEngine.viewCode (e : PlanEngine) : Nat :=
  match e.committed with
  | none => 0
  | some p => match p.view with
    | .full => 1
    | .part => 2

/-- The five bytes of a side (R168). Bits to which a layout of R166 to R168 gives no meaning, without marking them spare,
are sent as 0, here as in every answer (log entry 33, the model's choice). -/
def State.statusOfSide (s : State) (x : Side) : List Byte :=
  let m := s.monitors.get x
  let l := s.requests.sides.get x
  [byteOf (m.raw.code * 64 + m.declared.code * 16 + l.settleCode * 4 + flagBit l.echo.isSome 2),
    byteOf (l.line.code * 64 + l.operator.code * 16), byteOf l.effective.code] ++ wordBytes (s.secondsLeft l.settleTimer)

/-- The four bytes of a link (R168). -/
def State.statusOfLink (s : State) (x : Side) : List Byte :=
  let p := s.ports.get x
  byteOf (flagBit (p.link == .up) 128 + flagBit p.standing.isSome 64) :: (p.standing.map Notice.bytes).getD [0, 0, 0]

/-- The STATUS answer body (R168). -/
def State.statusAnswer (s : State) : List Byte :=
  let sw (x : Side) := s.protocol.sides.get x
  let served := s.geo.reportOrder s.requests.served
  [byteOf s.loader.load.code, byteOf ((s.attention.records.load.map (·.kind.code)).getD 0),
    byteOf (flagBit s.loader.armed 128 + flagBit s.pins.freeze 64 + flagBit s.fabric.freezeFlag 32
      + flagBit s.gateOpen 16 + flagBit s.sweeping 8 + flagBit s.fabric.inFlight.isSome 4
      + flagBit s.attention.moreFaults 2),
    byteOf s.plan.restarts] ++ wordBytes s.fabric.generation
    ++ [byteOf (s.requests.role.code * 64 + flagBit (s.requests.role.switchesOn .east) 32
          + flagBit (s.requests.role.switchesOn .west) 16 + s.plan.viewCode * 4),
        byteOf ((sw .east).decided.code * 64 + (sw .east).realised.code * 16 + (sw .west).decided.code * 4
          + (sw .west).realised.code),
        byteOf s.attention.causes.toNat]
    ++ s.statusOfSide .east ++ s.statusOfSide .west ++ s.statusOfLink .east ++ s.statusOfLink .west
    ++ [byteOf served.length]
    ++ served.flatMap fun e => [byteOf (s.geo.westId e.span), byteOf (s.geo.eastId e.span), byteOf e.kind.code]

/-- STATUS (R157). -/
def serveStatus (body : List Byte) (s : State) : State × Reply :=
  if body.isEmpty then (s, Reply.done s.statusAnswer) else (s, Reply.invalid .length)

end Sys2Proof.Machine
end

