-- ==== Sys2Proof/Machine/Load.lean ====
section
/-!
DEFINITION. The Identity Loader (chapter 11): the reading and checking of the image, the start of the held blocks, the
soft restart, and the power-on and pin resets.
-/

namespace Sys2Proof.Machine

/-! ### Reading the image (R179) -/

/-- The image is 83 bytes long (R169). -/
def imageLength : Nat := 83

/-- The transaction up to the first image byte (R179): start, device address 50h with the write bit, byte address 00h,
repeated start, device address 50h with the read bit. -/
def addressPhases : List BusItem :=
  [.start, .device 0x50#7 false, .byteAddress 0x00#8, .start, .device 0x50#7 true]

/-- A load begins (R178, R179): LOADING, the buffer empty, a transaction of its own on the bus. Byte 0 is requested once
the address phases are through, after a free number of periods (log entry 17). -/
def State.beginLoad (s : State) : State :=
  s.setLoader { s.loader with
    load := .loading
    image := []
    byteTimer := some (s.after (addressPeriods s.now + bytePeriods))
    bus := addressPhases }

/-- A requested image byte is delivered and stored at its address, and acknowledged; byte 82 is left unacknowledged, the
transaction ends with a stop condition, and the load state is CHECKING (R179). -/
def State.takeImageByte (s : State) (value : Byte) : State :=
  if s.loader.load ≠ .loading then s
  else
    let image := s.loader.image ++ [value]
    if imageLength ≤ image.length then
      s.setLoader { s.loader with
        load := .checking, image := image, byteTimer := none, bus := s.loader.bus ++ [.noAcknowledge, .stop] }
    else
      s.setLoader { s.loader with
        image := image, byteTimer := some (s.after bytePeriods), bus := s.loader.bus ++ [.acknowledge] }

/-- A load ends in LOAD-FAILED with a fault of the LOAD group (R179, R180). -/
def State.failLoad (s : State) (kind : FaultKind) (detail : Nat) : State :=
  (s.setLoader { s.loader with load := .loadFailed, byteTimer := none }).report .load kind detail

/-- A read failure: READ-FAILED with the address of the first byte not read (R179). -/
def State.failRead (s : State) : State :=
  if s.loader.load ≠ .loading then s else s.failLoad .readFailed s.loader.image.length

/-- A requested byte is not delivered within 10 ms of its request: a read failure (R179). -/
def State.byteTimesOut (s : State) : State := if s.due s.loader.byteTimer then s.failRead else s

/-! ### Checking the image (R180) -/

/-- The first id found twice: that of the smallest index whose id an earlier entry holds (R180). -/
def firstRepeated (seen : List Nat) : List Nat → Option Nat
  | [] => none
  | id :: rest => if seen.contains id then some id else firstRepeated (id :: seen) rest

/-- The five checks of R180 in order: none when the image passes. -/
def imageFault (image : List Byte) : Option (FaultKind × Nat) :=
  let n := imageSize image
  let self := imageSelf image
  let ids := imageIds image
  if imageWord image 81 ≠ crc16 (image.take 81) then some (.imageCheck, 0)
  else if n < 3 ∨ 24 < n then some (.size, n)
  else if ids.count self = 0 then some (.selfMissing, self)
  else if 2 ≤ ids.count self then some (.selfTwice, self)
  else (firstRepeated [] ids).map fun id => (.duplicateId, id)

/-- The ring of an image that passes (R2, R3, R169): the lists rotated so that the self id comes first, delays and node
transit delay clamped. -/
def imageRing (image : List Byte) : Ring :=
  let n := imageSize image
  let ids := imageIds image
  let i0 := (ids.findIdx? (· == imageSelf image)).getD 0
  { ringTag := (imageByte image 0).toNat / 16
    style := if bitOf (imageByte image 0) 3 then .crossed else .straight
    positions := (List.range n).map fun p => ids.getD ((p + i0) % n) 0
    delays := (List.range n).map fun p => min (imageWord image (27 + 2 * ((p + i0) % n))) maxDelay
    transit := min (imageByte image 75).toNat 15 }

/-- The settings of an image, clamped (R50, R75, R169). -/
def imageSettings (image : List Byte) : Settings :=
  { holdOff := clampTo 0 100 (imageByte image 76).toNat
    clearSoak := clampTo 1 60 (imageByte image 77).toNat
    settle := clampTo 0 720 (imageWord image 79)
    dimThreshold := clampTo 1 15 (imageByte image 78).toNat }

/-! ### The held blocks start (R44, R55, R68, R91, R110) -/

/-- A port at load: DOWN, nothing standing, the own QUIET notice to send (R68). A frame being sent goes on (R55). -/
def State.freshPort (s : State) (x : Side) : Port :=
  { Port.silent with transmit := some (s.geo.ownQuiet x), sent := (s.ports.get x).sent }

/-- A record at load (R91). -/
def SpanRecord.quiet : SpanRecord := { kind := .quiet, reporters := [], dark := false, served := false }

/-- The Request Unit at load (R91). -/
def State.freshRequests (s : State) : RequestUnit :=
  { RequestUnit.held with records := List.replicate s.geo.size SpanRecord.quiet }

/-- The Switch Protocol Unit at load: its copies match, its choices are the own QUIET notices (R110). -/
def State.freshSwitch (s : State) : SwitchUnit :=
  { SwitchUnit.held with
    sides := Pair.each fun x =>
      { SwitchSide.held with span := some SpanRecord.quiet, choice := some (s.geo.ownQuiet x) } }

/-- The blocks held until LOADED, at their values at load (R52, R67, R68, R91, R110). -/
def State.freshBlocks (s : State) : State :=
  (((s.setMonitors ⟨Monitor.held, Monitor.held⟩).setPorts (Pair.each s.freshPort)).setRequests s.freshRequests).setProtocol
    s.freshSwitch

/-- The blocks held until LOADED start: each Line Monitor forms its raw level from its inputs as they stand (R44,
R52). -/
def State.startBlocks (s : State) : State := s.freshBlocks.eachSide fun x t => t.formRaw x

/-- The load state becomes LOADED: the Ring Table fills, the settings enter, the held blocks start (R2, R180). -/
def State.finishLoad (s : State) : State :=
  (((s.setLoader { s.loader with load := .loaded, byteTimer := none }).setRing (some (imageRing s.loader.image))).setSettings
    (imageSettings s.loader.image)).startBlocks

/-- The checks of the image buffer (R180). -/
def State.checkImage (s : State) : State :=
  if s.loader.load ≠ .checking then s
  else
    match imageFault s.loader.image with
    | some (kind, detail) => s.failLoad kind detail
    | none => s.finishLoad

/-! ### Soft restart (R183, R184) -/

/-- The Fabric Port after a soft RESTART: maps and publication discarded, generation and freeze flag kept (R151). -/
def FabricPort.restarted (f : FabricPort) : FabricPort := { f with committed := none, inFlight := none }

/-- What a soft RESTART clears in every load state: fault records, cause flags and more-faults, the plan and its sweep,
the maps, the walk cursor, the armed flag (R41, R151, R177, R182). -/
def State.clearForRestart (s : State) : State :=
  ((((s.setLoader { s.loader with armed := false }).setTable { s.table with cursor := none }).setPlan
    PlanEngine.idle).setFabric s.fabric.restarted).setAttention s.attention.clearAll

/-- The blocks held until LOADED, at their held values (R44, R66, R91, R110). -/
def State.holdBlocks (s : State) : State :=
  (((s.setMonitors ⟨Monitor.held, Monitor.held⟩).setPorts ⟨Port.silent, Port.silent⟩).setRequests
    RequestUnit.held).setProtocol SwitchUnit.held

/-- A soft RESTART (R183, R184). -/
def State.softRestart (s : State) : State :=
  if s.running then s.clearForRestart.startBlocks else s.clearForRestart.holdBlocks.beginLoad

/-- RESTART (R161, R183, R184). -/
def serveRestart (body : List Byte) (s : State) : State × Reply :=
  if body.isEmpty then (s.softRestart, Reply.done [byteOf s.softRestart.loader.load.code])
  else (s, Reply.invalid .length)

/-! ### Power-on and pin reset (R185) -/

/-- Every piece of state of the part at its reset value; the input lines, the model's clock and free choices, and the
queue are not the part's state (log entries 1 and 2). -/
def State.toReset (s : State) : State :=
  { State.reset with pins := s.pins, now := s.now, orders := s.orders, pending := s.pending }

/-- The reset ends: a load begins and RDY goes high with both slots empty (R153, R185). A power-on reset and an asserted
RESET input that overlap are one reset, and the first release command ends it: the model keeps no level of the RESET
input, so the sender puts the release after the last of the two (log entry 20, the model's choice). -/
def State.releaseReset (s : State) : State :=
  if s.inReset then s.beginLoad.setMgmt { s.mgmt with requestSlot := none, answerSlot := none, rdy := true } else s

end Sys2Proof.Machine
end

