-- ==== Sys2Proof/Machine/Exchange.lean ====
section
/-!
DEFINITION. The exchange on the management port (sections 9.1 and 9.2): windows, RDY, overrun, the frame checks and the
dispatch of a request to the block that owns it.
-/

namespace Sys2Proof.Machine

/-- What serves a request whose code is defined: it reads the body and answers. -/
abbrev Service := List Byte → State → State × Reply

/-- The service of a request code (Table 42); none for a code that is not defined. -/
def serviceOf (code : Byte) : Option Service :=
  match code.toNat with
  | 0x01 => some serveStatus
  | 0x10 => some serveAdd
  | 0x11 => some serveEdit
  | 0x12 => some serveRetire
  | 0x13 => some serveRead
  | 0x14 => some serveChannelRead
  | 0x15 => some serveWalk
  | 0x20 => some serveSpanRead
  | 0x21 => some serveSpanDelay
  | 0x30 => some serveOperator
  | 0x40 => some serveSettingsRead
  | 0x41 => some serveSettingsWrite
  | 0x42 => some serveFreeze
  | 0x50 => some serveArm
  | 0x51 => some serveRestart
  | 0x60 => some serveFaultRead
  | 0x61 => some serveFaultClear
  | _ => none

/-- The requests taken in every load state: STATUS, RESTART, FAULT-READ, FAULT-CLEAR, and a SETTINGS-WRITE whose given
marks name the attention masks alone (R156). -/
def takenUnloaded (code : Byte) (body : List Byte) : Bool :=
  match code.toNat with
  | 0x01 => true
  | 0x41 => givesMasksAlone body
  | 0x51 => true
  | 0x60 => true
  | 0x61 => true
  | _ => false

/-- The request is answered LOCKED (R156). -/
def State.locks (s : State) (code : Byte) (body : List Byte) : Bool := !s.running && !takenUnloaded code body

/-- A not-ready window: MDO carries the filler, nothing else of the port changes; an incoming request is discarded and
reported OVERRUN with the first byte shifted in (R154), in every load state: section 10.1 has no source but the Identity
Loader report before LOADED, and the model follows R154 (log entry 35, the model's choice). -/
def State.notReadyWindow (s : State) (mdi : List Byte) : State :=
  let shown := s.setMgmt { s.mgmt with mdo := some Answer.filler }
  if windowEmpty mdi then shown else shown.report .mgmt .overrun (mdi.headD 0).toNat

/-- A window that opens while RDY is high shifts out the answer slot (R152). -/
def State.showAnswer (s : State) : State := s.setMgmt { s.mgmt with mdo := s.mgmt.answerSlot }

/-- The close of a window that delivers a request: RDY goes low and the request enters the request slot (R153). -/
def State.deliver (s : State) (c : Instr) : State :=
  s.showAnswer.setMgmt { s.showAnswer.mgmt with requestSlot := some c, rdy := false }

/-- The answer is formed: it replaces the answer slot, the request slot becomes free, RDY goes high (R153). -/
def State.answer (s : State) (code : Byte) (r : Reply) : State :=
  s.setMgmt { s.mgmt with
    requestSlot := none
    answerSlot := some { request := code, code := r.code, body := r.body }
    rdy := true }

/-- The dispatch of a good frame with a defined code: LOCKED, or the block's own answer (R156). -/
def State.serve (s : State) (code : Byte) (body : List Byte) (service : Service) : State × Reply :=
  if s.locks code body then (s, Reply.plain .locked) else service body s

/-- A bad frame: BAD-FRAME reported, in every load state (log entry 35, the model's choice, as for OVERRUN), and CORRUPT
answered with the code echoed as 00h (R155). -/
def State.corruptFrame (s : State) (c : Instr) : State :=
  ((s.deliver c).report .mgmt .badFrame 0).answer 0x00#8 (Reply.plain .corrupt)

/-- A window that delivers a frame with a defined code, taken whole with its answer (R153, R156); a body longer than any
frame carries makes the frame bad (R155); a not-ready window while RDY is low (R154). -/
def State.request (s : State) (c : Instr) (code : Byte) (body : List Byte) (service : Service) : State :=
  if !s.mgmt.rdy then s.notReadyWindow [code]
  else if longestBody < body.length then s.corruptFrame c
  else
    let served := (s.deliver c).serve code body service
    served.1.answer code served.2

/-- A good frame whose code is not defined: UNKNOWN, and UNKNOWN-REQUEST with the code (R156), reported in every load
state (log entry 35, the model's choice, as for OVERRUN). -/
def State.unknownCode (s : State) (c : Instr) (code : Byte) (body : List Byte) : State :=
  if !s.mgmt.rdy then s.notReadyWindow [code]
  else if longestBody < body.length then s.corruptFrame c
  else ((s.deliver c).report .mgmt .unknownRequest code.toNat).answer code (Reply.plain .unknown)

/-- A good frame dispatched by its code (R156). -/
def State.takeFrame (s : State) (c : Instr) (code : Byte) (body : List Byte) : State :=
  match serviceOf code with
  | none => s.unknownCode c code body
  | some service => s.request c code body service

/-- The close of a window in which bytes were shifted in (R152 to R156). -/
def State.takeWindow (s : State) (c : Instr) (bytes : List Byte) (bits : Nat) : State :=
  if !s.mgmt.rdy then s.notReadyWindow bytes
  else if windowEmpty bytes then s.showAnswer
  else if frameBad bytes bits then s.corruptFrame c
  else s.takeFrame c (frameCode bytes) (frameBody bytes)

end Sys2Proof.Machine
end

