-- ==== Sys2Proof/Machine/CircuitRequests.lean ====
section
/-!
DEFINITION. Meanings of the host's requests to the Circuit Table: ADD, EDIT, RETIRE, READ, CHANNEL_READ, WALK_START and
WALK_CONTINUE (chapter 2). Each is one exchange window that delivers the request, with the answer to it (R153, log
entry 6); what the body's bytes ask for is read from them (R166, log entry 13).
-/

namespace Sys2Proof.Machine

/-- ADD (R25, R27, R28). -/
def execAdd (body : List Byte) (s : State) : Host.Outcome State Fault Refusal :=
  s.live fun t => t.request (.add body) 0x10#8 body serveAdd

/-- EDIT (R25, R29, R30). -/
def execEdit (body : List Byte) (s : State) : Host.Outcome State Fault Refusal :=
  s.live fun t => t.request (.edit body) 0x11#8 body serveEdit

/-- RETIRE (R25, R31). -/
def execRetire (body : List Byte) (s : State) : Host.Outcome State Fault Refusal :=
  s.live fun t => t.request (.retire body) 0x12#8 body serveRetire

/-- READ (R25, R33). -/
def execRead (body : List Byte) (s : State) : Host.Outcome State Fault Refusal :=
  s.live fun t => t.request (.read body) 0x13#8 body serveRead

/-- CHANNEL_READ (R25, R34). -/
def execChannelRead (body : List Byte) (s : State) : Host.Outcome State Fault Refusal :=
  s.live fun t => t.request (.channelRead body) 0x14#8 body serveChannelRead

/-- WALK_START (R36 to R40). -/
def execWalkStart (body : List Byte) (s : State) : Host.Outcome State Fault Refusal :=
  s.live fun t => t.request (.walkStart body) 0x15#8 body serveWalk

/-- WALK_CONTINUE (R36 to R40). -/
def execWalkContinue (body : List Byte) (s : State) : Host.Outcome State Fault Refusal :=
  s.live fun t => t.request (.walkContinue body) 0x15#8 body serveWalk

end Sys2Proof.Machine
end

