-- ==== Sys2Proof/Machine/ControlRequests.lean ====
section
/-!
DEFINITION. Meanings of the host's other requests: STATUS, SPAN_READ, SPAN_DELAY, the four actions of OPERATOR, SETTINGS_READ,
SETTINGS_WRITE, FREEZE_SET, FREEZE_CLEAR, ARM, RESTART, FAULT_READ and FAULT_CLEAR (chapters 1, 5, 9, 10 and 11). Each is
one exchange window that delivers the request, with the answer to it (R153, log entry 6).
-/

namespace Sys2Proof.Machine

/-- STATUS (R157). -/
def execStatus (body : List Byte) (s : State) : Host.Outcome State Fault Refusal :=
  s.live fun t => t.request (.status body) 0x01#8 body serveStatus

/-- SPAN_READ (R15). -/
def execSpanRead (body : List Byte) (s : State) : Host.Outcome State Fault Refusal :=
  s.live fun t => t.request (.spanRead body) 0x20#8 body serveSpanRead

/-- SPAN_DELAY (R12). -/
def execSpanDelay (body : List Byte) (s : State) : Host.Outcome State Fault Refusal :=
  s.live fun t => t.request (.spanDelay body) 0x21#8 body serveSpanDelay

/-- OPERATOR_BAR (R76, R77). -/
def execOperatorBar (body : List Byte) (s : State) : Host.Outcome State Fault Refusal :=
  s.live fun t => t.request (.operatorBar body) 0x30#8 body serveOperator

/-- OPERATOR_FORCE (R76, R78). -/
def execOperatorForce (body : List Byte) (s : State) : Host.Outcome State Fault Refusal :=
  s.live fun t => t.request (.operatorForce body) 0x30#8 body serveOperator

/-- OPERATOR_ASK (R76, R79). -/
def execOperatorAsk (body : List Byte) (s : State) : Host.Outcome State Fault Refusal :=
  s.live fun t => t.request (.operatorAsk body) 0x30#8 body serveOperator

/-- RELEASE (R76, R81). -/
def execRelease (body : List Byte) (s : State) : Host.Outcome State Fault Refusal :=
  s.live fun t => t.request (.release body) 0x30#8 body serveOperator

/-- SETTINGS_READ (R158). -/
def execSettingsRead (body : List Byte) (s : State) : Host.Outcome State Fault Refusal :=
  s.live fun t => t.request (.settingsRead body) 0x40#8 body serveSettingsRead

/-- SETTINGS_WRITE (R159). -/
def execSettingsWrite (body : List Byte) (s : State) : Host.Outcome State Fault Refusal :=
  s.live fun t => t.request (.settingsWrite body) 0x41#8 body serveSettingsWrite

/-- FREEZE_SET (R144, R160). -/
def execFreezeSet (body : List Byte) (s : State) : Host.Outcome State Fault Refusal :=
  s.live fun t => t.request (.freezeSet body) 0x42#8 body serveFreeze

/-- FREEZE_CLEAR (R144, R160). -/
def execFreezeClear (body : List Byte) (s : State) : Host.Outcome State Fault Refusal :=
  s.live fun t => t.request (.freezeClear body) 0x42#8 body serveFreeze

/-- ARM (R181). -/
def execArm (body : List Byte) (s : State) : Host.Outcome State Fault Refusal :=
  s.live fun t => t.request (.arm body) 0x50#8 body serveArm

/-- RESTART (R161, R183, R184). -/
def execRestart (body : List Byte) (s : State) : Host.Outcome State Fault Refusal :=
  s.live fun t => t.request (.restart body) 0x51#8 body serveRestart

/-- FAULT_READ (R175). -/
def execFaultRead (body : List Byte) (s : State) : Host.Outcome State Fault Refusal :=
  s.live fun t => t.request (.faultRead body) 0x60#8 body serveFaultRead

/-- FAULT_CLEAR (R176). -/
def execFaultClear (body : List Byte) (s : State) : Host.Outcome State Fault Refusal :=
  s.live fun t => t.request (.faultClear body) 0x61#8 body serveFaultClear

end Sys2Proof.Machine
end

