-- ==== Sys2Proof/Machine/FabricEvents.lean ====
section
/-!
DEFINITION. Meanings of the events at the Plan Engine and the Fabric Port: SWEEP_COMPLETION, FAB_DONE, FABRIC_TIMEOUT and
FREEZE_PIN_CHANGE (chapter 8).
-/

namespace Sys2Proof.Machine

/-- SWEEP_COMPLETION (R138). -/
def execSweepCompletion (s : State) : Host.Outcome State Fault Refusal := s.live fun t => t.completeSweep

/-- FAB_DONE (R146, R170). -/
def execFabDone (generation : BitVec 16) (s : State) : Host.Outcome State Fault Refusal :=
  s.live fun t => t.takeDone generation.toNat

/-- FABRIC_TIMEOUT (R147). -/
def execFabricTimeout (s : State) : Host.Outcome State Fault Refusal := s.live fun t => t.fabricExpires

/-- FREEZE_PIN_CHANGE (R144, R150): the pin takes its level in every load state, and the gate is formed again. -/
def execFreezePinChange (asserted : Bool) (s : State) : Host.Outcome State Fault Refusal := .next (s.takeFreezePin asserted)

end Sys2Proof.Machine
end

