-- ==== Sys2Proof/Machine/LineEvents.lean ====
section
/-!
DEFINITION. Meanings of the events at the Line Monitors: RECEIVER_CONDITION_CHANGE, DIM_TIMER_EXPIRY, DARK_TIMER_EXPIRY and
SOAK_EXPIRY (chapter 3).
-/

namespace Sys2Proof.Machine

/-- The receiver lines of a side replaced. -/
def Pins.withReceiver (p : Pins) (x : Side) (r : Receiver) : Pins := { p with receivers := p.receivers.set x r }

/-- RECEIVER_CONDITION_CHANGE (R42): the lines take their levels in every load state; the monitor, while it runs, forms its
raw level again. -/
def execReceiverConditionChange (side : Side) (los lock : Bool) (grade : BitVec 4) (s : State) :
    Host.Outcome State Fault Refusal :=
  .next ((s.setPins (s.pins.withReceiver side ⟨los, lock, grade⟩)).formRaw side)

/-- DIM_TIMER_EXPIRY (R45). -/
def execDimTimerExpiry (side : Side) (s : State) : Host.Outcome State Fault Refusal := s.live fun t => t.dimExpires side

/-- DARK_TIMER_EXPIRY (R46). -/
def execDarkTimerExpiry (side : Side) (s : State) : Host.Outcome State Fault Refusal := s.live fun t => t.darkExpires side

/-- SOAK_EXPIRY (R48). -/
def execSoakExpiry (side : Side) (s : State) : Host.Outcome State Fault Refusal := s.live fun t => t.soakExpires side

end Sys2Proof.Machine
end

