-- ==== Sys2Proof/Machine/LinkEvents.lean ====
section
/-!
DEFINITION. Meanings of the events at the Supervisory Link Ports: NOTICE_PERIOD, RING_NOTICE and LINK_DOWN (chapter 4).
-/

namespace Sys2Proof.Machine

/-- NOTICE_PERIOD (R54): 125 µs pass in every load state (log entry 3); a port that is not silent sends a frame. -/
def execNoticePeriod (s : State) : Host.Outcome State Fault Refusal := .next s.beginPeriod

/-- RING_NOTICE (R56, R57). -/
def execRingNotice (side : Side) (frame : List Byte) (s : State) : Host.Outcome State Fault Refusal :=
  s.live fun t => t.receive side frame

/-- LINK_DOWN (R63). -/
def execLinkDown (side : Side) (s : State) : Host.Outcome State Fault Refusal := s.live fun t => t.linkExpires side

end Sys2Proof.Machine
end

