-- ==== Sys2Proof/Machine/ProtocolEvents.lean ====
section
/-!
DEFINITION. Meanings of the expiries at the Request Unit and the Switch Protocol Unit: SETTLE_TIMER_EXPIRY, ECHO_HOLD_EXPIRY and
ANSWER_TIMER_EXPIRY (chapters 5 and 6).
-/

namespace Sys2Proof.Machine

/-- SETTLE_TIMER_EXPIRY (R73). -/
def execSettleTimerExpiry (side : Side) (s : State) : Host.Outcome State Fault Refusal := s.live fun t => t.settleExpires side

/-- ECHO_HOLD_EXPIRY (R84). -/
def execEchoHoldExpiry (side : Side) (s : State) : Host.Outcome State Fault Refusal := s.live fun t => t.echoExpires side

/-- ANSWER_TIMER_EXPIRY (R101). -/
def execAnswerTimerExpiry (side : Side) (s : State) : Host.Outcome State Fault Refusal := s.live fun t => t.answerExpires side

end Sys2Proof.Machine
end

