-- ==== Sys2Proof/Machine/ResetEvents.lean ====
section
/-!
DEFINITION. Meanings of the resets and of the identity load: POWER_ON_RESET, PIN_RESET, RESET_RELEASE, CONFIG_BYTE_READ,
READ_FAILED, CONFIG_BYTE_TIMEOUT and IMAGE_CHECK (chapter 11).
-/

namespace Sys2Proof.Machine

/-- POWER_ON_RESET (R185). -/
def execPowerOnReset (s : State) : Host.Outcome State Fault Refusal := .next s.toReset

/-- PIN_RESET (R185): the same effect as a power-on reset. -/
def execPinReset (s : State) : Host.Outcome State Fault Refusal := .next s.toReset

/-- RESET_RELEASE (R153, R178, R185). -/
def execResetRelease (s : State) : Host.Outcome State Fault Refusal := .next s.releaseReset

/-- CONFIG_BYTE_READ (R179). -/
def execConfigByteRead (value : Byte) (s : State) : Host.Outcome State Fault Refusal := .next (s.takeImageByte value)

/-- READ_FAILED: the memory does not acknowledge, or CFG_SDA is held low (R179). -/
def execReadFailed (s : State) : Host.Outcome State Fault Refusal := .next s.failRead

/-- CONFIG_BYTE_TIMEOUT: a requested byte is not delivered within 10 ms (R179). -/
def execConfigByteTimeout (s : State) : Host.Outcome State Fault Refusal := .next s.byteTimesOut

/-- IMAGE_CHECK (R180). -/
def execImageCheck (s : State) : Host.Outcome State Fault Refusal := .next s.checkImage

end Sys2Proof.Machine
end

