-- ==== Sys2Proof/Machine/WindowEvents.lean ====
section
/-!
DEFINITION. Meanings of the exchange windows that deliver no good request: BAD_FRAME, UNKNOWN_REQUEST, EMPTY_WINDOW and OVERRUN
(sections 9.1 and 9.2).
-/

namespace Sys2Proof.Machine

/-- BAD_FRAME (R155): the close of a window, by the bytes it shifted in. -/
def execBadFrame (bytes : List Byte) (bits : Nat) (s : State) : Host.Outcome State Fault Refusal :=
  s.live fun t => t.takeWindow (.badFrame bytes bits) bytes bits

/-- UNKNOWN_REQUEST (R156): a good frame by its code; a first byte of FFh makes the window empty (R152). -/
def execUnknownRequest (code : Byte) (body : List Byte) (s : State) : Host.Outcome State Fault Refusal :=
  s.live fun t =>
    if windowEmpty [code] && t.mgmt.rdy then t.showAnswer
    else if windowEmpty [code] then t.notReadyWindow []
    else t.takeFrame (.unknownRequest code body) code body

/-- EMPTY_WINDOW (R152, R154). -/
def execEmptyWindow (s : State) : Host.Outcome State Fault Refusal :=
  s.live fun t => if t.mgmt.rdy then t.showAnswer else t.notReadyWindow []

/-- OVERRUN (R154): a window that opens while RDY is low. -/
def execOverrun (mdi : List Byte) (s : State) : Host.Outcome State Fault Refusal := s.live fun t => t.notReadyWindow mdi

end Sys2Proof.Machine
end

