-- ==== Sys2Proof/Machine/Dispatch.lean ====
section
/-!
DEFINITION. The meaning of a command: its effect on everything but the queue, one arm for each row of the table.
-/

namespace Sys2Proof.Machine

def exec (i : Instr) (s : State) : Host.Outcome State Fault Refusal :=
  match i with
  | .powerOnReset => Sys2Proof.Machine.execPowerOnReset s
  | .pinReset => Sys2Proof.Machine.execPinReset s
  | .resetRelease => Sys2Proof.Machine.execResetRelease s
  | .configByteRead value => Sys2Proof.Machine.execConfigByteRead value s
  | .readFailed => Sys2Proof.Machine.execReadFailed s
  | .configByteTimeout => Sys2Proof.Machine.execConfigByteTimeout s
  | .imageCheck => Sys2Proof.Machine.execImageCheck s
  | .status body => Sys2Proof.Machine.execStatus body s
  | .add body => Sys2Proof.Machine.execAdd body s
  | .edit body => Sys2Proof.Machine.execEdit body s
  | .retire body => Sys2Proof.Machine.execRetire body s
  | .read body => Sys2Proof.Machine.execRead body s
  | .channelRead body => Sys2Proof.Machine.execChannelRead body s
  | .walkStart body => Sys2Proof.Machine.execWalkStart body s
  | .walkContinue body => Sys2Proof.Machine.execWalkContinue body s
  | .spanRead body => Sys2Proof.Machine.execSpanRead body s
  | .spanDelay body => Sys2Proof.Machine.execSpanDelay body s
  | .operatorBar body => Sys2Proof.Machine.execOperatorBar body s
  | .operatorForce body => Sys2Proof.Machine.execOperatorForce body s
  | .operatorAsk body => Sys2Proof.Machine.execOperatorAsk body s
  | .release body => Sys2Proof.Machine.execRelease body s
  | .settingsRead body => Sys2Proof.Machine.execSettingsRead body s
  | .settingsWrite body => Sys2Proof.Machine.execSettingsWrite body s
  | .freezeSet body => Sys2Proof.Machine.execFreezeSet body s
  | .freezeClear body => Sys2Proof.Machine.execFreezeClear body s
  | .arm body => Sys2Proof.Machine.execArm body s
  | .restart body => Sys2Proof.Machine.execRestart body s
  | .faultRead body => Sys2Proof.Machine.execFaultRead body s
  | .faultClear body => Sys2Proof.Machine.execFaultClear body s
  | .badFrame bytes bits => Sys2Proof.Machine.execBadFrame bytes bits s
  | .unknownRequest code body => Sys2Proof.Machine.execUnknownRequest code body s
  | .emptyWindow => Sys2Proof.Machine.execEmptyWindow s
  | .overrun mdi => Sys2Proof.Machine.execOverrun mdi s
  | .receiverConditionChange side los lock grade => Sys2Proof.Machine.execReceiverConditionChange side los lock grade s
  | .dimTimerExpiry side => Sys2Proof.Machine.execDimTimerExpiry side s
  | .darkTimerExpiry side => Sys2Proof.Machine.execDarkTimerExpiry side s
  | .soakExpiry side => Sys2Proof.Machine.execSoakExpiry side s
  | .noticePeriod => Sys2Proof.Machine.execNoticePeriod s
  | .ringNotice side frame => Sys2Proof.Machine.execRingNotice side frame s
  | .linkDown side => Sys2Proof.Machine.execLinkDown side s
  | .settleTimerExpiry side => Sys2Proof.Machine.execSettleTimerExpiry side s
  | .echoHoldExpiry side => Sys2Proof.Machine.execEchoHoldExpiry side s
  | .answerTimerExpiry side => Sys2Proof.Machine.execAnswerTimerExpiry side s
  | .sweepCompletion => Sys2Proof.Machine.execSweepCompletion s
  | .fabDone generation => Sys2Proof.Machine.execFabDone generation s
  | .fabricTimeout => Sys2Proof.Machine.execFabricTimeout s
  | .freezePinChange asserted => Sys2Proof.Machine.execFreezePinChange asserted s

end Sys2Proof.Machine
end

