-- ==== Sys2Proof/Machine/Step.lean ====
section
/-!
DEFINITION. The step of the part: the command at the front of the queue is taken whole (00_scope.md section 1.1: a block
acts when an event reaches it).
-/

namespace Sys2Proof.Machine

/-- The front command runs with the rest of the queue; with nothing waiting the part idles (log entry 4). -/
def step (s : State) : Host.Outcome State Fault Refusal :=
  match s.pending with
  | [] => .next s
  | c :: rest => exec c (s.setPending rest)

/-- The command a word spells, put at the front of the queue. -/
def State.withFetchWord (s : State) (nbits w : Nat) : State :=
  match decodeTableWord nbits w with
  | none => s
  | some c => s.setPending (c :: s.pending)

end Sys2Proof.Machine
end

