-- ==== Sys2Proof/Safety.lean ====
section
/-!
DEFINITION. The terms in which statements speak of a run: what a command leaves as it is, how a request is answered, and
the invariants of the blocks, each with the rules it gathers.
-/

namespace Sys2Proof.Machine

/-! ### What a command leaves as it is -/

/-- The pieces the state is made of. -/
inductive Block where
  | pins
  | loader
  | ring
  | settings
  | table
  | monitors
  | ports
  | requests
  | protocol
  | plan
  | fabric
  | mgmt
  | attention
  | now
  | orders
  | pending
deriving DecidableEq, Repr

/-- A piece has the same content in two states. -/
def sameBlock (s t : State) : Block → Prop
  | .pins => t.pins = s.pins
  | .loader => t.loader = s.loader
  | .ring => t.ring = s.ring
  | .settings => t.settings = s.settings
  | .table => t.table = s.table
  | .monitors => t.monitors = s.monitors
  | .ports => t.ports = s.ports
  | .requests => t.requests = s.requests
  | .protocol => t.protocol = s.protocol
  | .plan => t.plan = s.plan
  | .fabric => t.fabric = s.fabric
  | .mgmt => t.mgmt = s.mgmt
  | .attention => t.attention = s.attention
  | .now => t.now = s.now
  | .orders => t.orders = s.orders
  | .pending => t.pending = s.pending

/-- Every piece outside the list has the same content in both states. -/
def onlyChanges (changed : List Block) (s t : State) : Prop := ∀ b, b ∉ changed → sameBlock s t b

/-! ### The management port around a request -/

/-- The part is loaded and its port is ready to take a request (R153, R156). -/
def hostReady (s : State) : Prop := s.loader.load = .loaded ∧ s.mgmt.rdy = true

/-- The part is out of reset and its port is ready to take a request (R153). -/
def portReady (s : State) : Prop := s.loader.load ≠ .noLoad ∧ s.mgmt.rdy = true

/-- The port after a request: MDO carried the answer before, the answer slot holds the new one, RDY is high (R152, R153,
R165). -/
def answered (s t : State) (request : Byte) (code : AnswerCode) (body : List Byte) : Prop :=
  t.mgmt = { requestSlot := none, answerSlot := some { request := request, code := code, body := body }, rdy := true,
             mdo := s.mgmt.answerSlot }

/-- A command is answered: exec gives a next state that differs from `s` only in the port, which holds the answer, and in
`changed`, and that has the effect named. -/
def Answers (i : Instr) (s : State) (changed : List Block) (request : Byte) (code : AnswerCode)
    (body : State → List Byte) (effect : State → Prop) : Prop :=
  ∃ t, exec i s = .next t ∧ onlyChanges (.mgmt :: changed) s t ∧ answered s t request code (body t) ∧ effect t

/-- A command is answered and leaves everything but the port as it is. -/
def AnswersOnly (i : Instr) (s : State) (request : Byte) (code : AnswerCode) (body : List Byte) : Prop :=
  Answers i s [] request code (fun _ => body) fun _ => True

/-- A command has its effect: exec gives a next state that differs from `s` only in `changed`, and that has the effect
named. -/
def Effects (i : Instr) (s : State) (changed : List Block) (effect : State → Prop) : Prop :=
  ∃ t, exec i s = .next t ∧ onlyChanges changed s t ∧ effect t

/-- The body of a DONE answer to an OPERATOR on a side (R76, R167): line part, operator part, effective kind, served flag,
settle timer, and the seconds left in two bytes. -/
def operatorBytes (t : State) (x : Side) : List Byte :=
  let l := t.requests.sides.get x
  let line : Nat × Nat := match l.line with | .none => (0, 0) | .dim => (1, 3) | .dark => (2, 4) | .settle => (3, 1)
  let operator : Nat × Nat := match l.operator with | .none => (0, 0) | .ask => (1, 2) | .force => (2, 5) | .bar => (3, 6)
  let seconds : Nat := match l.settleTimer with | none => 0 | some expiry => (expiry - t.now) / 8000
  [byteOf line.1, byteOf operator.1, byteOf (max line.2 operator.2),
    if t.requests.served.any (fun e => e.span == t.geo.facing x) then 1 else 0,
    if l.settleTimer.isSome then 1 else if l.line = .settle then 2 else 0, byteOf (seconds / 256), byteOf seconds]

/-! ### Timers -/

/-- A timer of `s` runs, and the moment it runs to has come: its expiry may be taken (log entry 3). -/
def timerDue (s : State) (t : Timer) : Prop := ∃ expiry, t = some expiry ∧ expiry ≤ s.now

/-! ### Sweeps and publications -/

/-- A sweep starts at channel 0, with a snapshot of the state as the command leaves it and a restart count of 0 (R133,
R134). -/
def sweepStarted (s t : State) : Prop :=
  t.plan = { s.plan with sweep := some { snapshot := t.snapshot, channel := 0 }, restarts := 0 }

/-- What a trigger does to the Plan Engine and the Attention Unit: a start, a restart while the count is below 4 (R136), or
the follow-up at 4 (R137). -/
def triggered (s t : State) : Prop :=
  if s.plan.sweep = none then sweepStarted s t ∧ t.attention = s.attention
  else if s.plan.restarts < 4 then
    t.plan = { s.plan with sweep := some { snapshot := t.snapshot, channel := 0 }, restarts := s.plan.restarts + 1 } ∧
    t.attention = s.attention
  else if s.plan.followUp = true then t.plan = s.plan ∧ t.attention = s.attention
  else t.plan = { s.plan with followUp := true } ∧ t.attention = s.attention.report .protocol .restartLimit 0

/-- A pending map stands committed and nothing is in flight: what a publication waits for besides the gate (R145). -/
def mapWaits (f : FabricPort) : Prop := f.inFlight = none ∧ f.mapPending = true

/-- A publication of the pending map starts (R145): the next generation, the map in flight under it and presented, the
fabric timer of 10 ms. -/
def publicationStarted (f g : FabricPort) (now : Nat) : Prop :=
  ∃ m generation, f.committed = some { map := m, pending := true } ∧
    generation = (if 65535 ≤ f.generation then 1 else f.generation + 1) ∧
    g = { f with
      generation := generation
      committed := some { map := { m with generation := some generation }, pending := false }
      inFlight := some { map := { m with generation := some generation }, expiry := now + 80 }
      presented := some { m with generation := some generation }
      presentations := f.presentations + 1 }

/-- The Fabric Port after an event that leaves it as `f` and, where `starts` holds, starts a publication. -/
def publishesIf (starts : Prop) (f g : FabricPort) (now : Nat) : Prop :=
  (starts ∧ mapWaits f → publicationStarted f g now) ∧ (¬(starts ∧ mapWaits f) → g = f)

/-! ### Invariants -/

/-- A fault group's cause flag is raised exactly while its record is occupied (R171). -/
def CausesMatchRecords (s : State) : Prop :=
  ∀ g : FaultGroup, s.attention.causes.ofGroup g = (s.attention.records.ofGroup g).isSome

/-- A link is UP exactly while it has a standing notice, and its link-down timer runs exactly while it is UP; a run counts
1 to 3 (R60, R62 to R64). -/
def LinksSound (s : State) : Prop :=
  ∀ x : Side,
    ((s.ports.get x).link = .up ↔ (s.ports.get x).standing.isSome = true) ∧
    ((s.ports.get x).link = .up ↔ (s.ports.get x).downTimer.isSome = true) ∧
    (∀ run, (s.ports.get x).run = some run → 1 ≤ run.count ∧ run.count ≤ 3)

/-- The timers of a monitor run exactly when Table 14 says. -/
def Monitor.timed (m : Monitor) : Prop :=
  (m.dimTimer.isSome = true ↔ m.raw ≠ .clear ∧ m.declared = .clear) ∧
  (m.darkTimer.isSome = true ↔ m.raw = .dark ∧ m.declared ≠ .dark) ∧
  (m.soakTimer.isSome = true ↔ m.raw.code < m.declared.code)

/-- While the load state is LOADED each raw level is what its inputs give, and the timers run as Table 14 says; otherwise
the monitors are held (R42 to R48). -/
def MonitorsSound (s : State) : Prop :=
  ∀ x : Side,
    if s.running then (s.monitors.get x).raw = s.rawLevel x ∧ (s.monitors.get x).timed
    else s.monitors.get x = Monitor.held

/-- A ring as a load leaves it and the host may edit it (R1, R3, R11). -/
def Ring.sound (r : Ring) : Prop :=
  3 ≤ r.size ∧ r.size ≤ 24 ∧ r.ringTag < 16 ∧ r.positions.Nodup ∧ (∀ id ∈ r.positions, id < 64) ∧
  r.delays.length = r.size ∧ (∀ d ∈ r.delays, d ≤ 4095) ∧ r.transit ≤ 15

/-- A record on a ring: its values in range, its ids on the ring and different, its channel in the range of its class
(R16 to R19). -/
def Circuit.sound (r : Ring) (c : Circuit) : Prop :=
  c.id ≤ 4095 ∧ c.channel ≤ 79 ∧ (r.positionOf c.source).isSome = true ∧ (r.positionOf c.destination).isSome = true ∧
  c.source ≠ c.destination ∧ (c.cls = .extra ↔ 40 ≤ c.channel) ∧ c.ceiling ≤ 65535 ∧
  (∀ bytes, c.label = some bytes → 1 ≤ bytes.length ∧ bytes.length ≤ 16)

/-- Records with unique ids, each channel's in strict order of start span, no two of one channel overlapping, at most 2048
in all (R22 to R24). -/
def tableSound (r : Ring) (circuits : List Circuit) : Prop :=
  circuits.length ≤ 2048 ∧ (∀ c ∈ circuits, c.sound r) ∧ (circuits.map (·.id)).Nodup ∧
  circuits.Pairwise (fun a b => r.chainBefore a b = true) ∧
  circuits.Pairwise fun a b => a.channel = b.channel → r.overlap (r.circuitRoute a) (r.circuitRoute b) = false

/-- A cursor's window lies within the channels (R35). -/
def Cursor.sound (k : Cursor) : Prop := k.lo ≤ k.hi ∧ k.hi ≤ 79

/-- A ring is held exactly while the load state is LOADED, and records and a cursor stand only then, each as the rules of
chapters 1 and 2 have them (R1, R2, R25, R41). -/
def TablesSound (s : State) : Prop :=
  match s.ring with
  | none => s.loader.load ≠ .loaded ∧ s.table = CircuitTable.empty
  | some r => s.loader.load = .loaded ∧ r.sound ∧ tableSound r s.table.circuits ∧ (∀ k ∈ s.table.cursor, k.sound)

/-- While the load state is LOADED the records, the served set and the role are what the parts of the two sides and the
standing notices give (R83, R86, R89); no SETTLE and no ASK stands that R74 or R80 would drop; and a settle timer runs
only under a SETTLE (R73). -/
def RequestsSettled (s : State) : Prop :=
  s.running = true →
    s.hearing.derivePass s.requests.sides = s.requests ∧
    ∀ x : Side,
      ((s.requests.sides.get x).line = .settle →
        (s.requests.sides.get x).effective = .settle ∧ s.geo.isServed s.requests.served x = true) ∧
      ((s.requests.sides.get x).operator = .ask → s.geo.isServed s.requests.served x = true) ∧
      ((s.requests.sides.get x).settleTimer.isSome = true → (s.requests.sides.get x).line = .settle)

/-- The Switch Protocol Unit's decided states and transmit choices are up to date with its copies, as the close of every
event leaves them (R93 to R95, R106), and an answer timer has been started only in a bridge episode (R101). -/
def SwitchUnit.upToDate (u : SwitchUnit) (r : Ring) : Prop :=
  ∀ x : Side,
    (u.sides.get x).decided = u.decide r x ∧
    (u.sides.get x).choice = some (u.content r x) ∧
    ((u.sides.get x).answer ≠ .stopped → (u.sides.get x).decided = .bridged)

/-- While the load state is LOADED the unit's copies are the Request Unit's result and the links' standing notices (R92),
the unit is up to date with them, and each port carries its choice (R106). -/
def SwitchSound (s : State) : Prop :=
  s.running = true →
    s.protocol.served = s.requests.served ∧ s.protocol.role = s.requests.role ∧
    s.protocol.upToDate s.geo ∧
    ∀ x : Side,
      (s.protocol.sides.get x).standing = (s.ports.get x).standing ∧
      (s.ports.get x).transmit = (s.protocol.sides.get x).choice ∧
      ((s.protocol.sides.get x).span.map fun rec => (rec.kind, rec.reporters)) = s.requests.reportOn (s.geo.facing x)

/-- While the load state is LOADED the line part of a side is DARK exactly while its declared level is DARK, and DIM exactly
while that is DIM (R71, R72). -/
def LinesFollowLevels (s : State) : Prop :=
  s.running = true → ∀ x : Side,
    ((s.requests.sides.get x).line = .dark ↔ (s.monitors.get x).declared = .dark) ∧
    ((s.requests.sides.get x).line = .dim ↔ (s.monitors.get x).declared = .dim)

/-- The blocks that are held while the load state is not LOADED are at their held values: no timer, no request, no sweep and
no map (R44, R55, R66, R91, R110, R131, R150). -/
def BlocksHeld (s : State) : Prop :=
  s.loader.load ≠ .loaded →
    s.monitors = ⟨Monitor.held, Monitor.held⟩ ∧ s.requests = RequestUnit.held ∧ s.protocol = SwitchUnit.held ∧
    s.plan = PlanEngine.idle ∧ s.fabric.committed = none ∧ s.fabric.inFlight = none ∧
    ∀ x : Side, (s.ports.get x).transmit = none ∧ (s.ports.get x).run = none ∧ (s.ports.get x).standing = none ∧
      (s.ports.get x).link = .down ∧ (s.ports.get x).downTimer = none

/-- The node is a DARK reporter of the span side X faces (R92). -/
def reportsDark (s : State) (x : Side) : Prop :=
  ∃ kind reporters, s.requests.reportOn (s.geo.facing x) = some (kind, reporters) ∧
    ∃ p ∈ reporters, p.id = s.geo.selfId ∧ p.kind = some .dark

/-- An answer notice of side X stands on either link (R94). -/
def answerNoticeStands (s : State) (x : Side) : Prop :=
  ∃ (link : Side) (n : Notice), (s.ports.get link).standing = some n ∧ n.state ≠ .idle ∧ s.geo.fromFarEnd x n = true

/-- The commands whose frame carries the code of RESTART, 51h, under whatever row they stand (log entry 13). -/
def carriesRestart (c : Instr) : Prop :=
  (∃ body, c = .restart body) ∨ (∃ body, c = .unknownRequest 0x51#8 body) ∨ ∃ rest bits, c = .badFrame (0x51#8 :: rest) bits

/-- The restart count, the follow-up and the publication hold together: the count is at most 4, and 0 while no sweep runs;
a follow-up is due only at 4; the snapshot of a running sweep with no follow-up due is what its inputs are now; a map in
flight has the generation; and no map waits behind an open gate with nothing in flight (R134, R136, R137, R145). -/
def EngineSound (s : State) : Prop :=
  s.plan.restarts ≤ 4 ∧ (s.plan.sweep = none → s.plan.restarts = 0) ∧
  (s.plan.followUp = true → s.plan.sweep.isSome = true ∧ s.plan.restarts = 4) ∧
  (∀ sweep, s.plan.sweep = some sweep → s.plan.followUp = false →
    sweep.snapshot =
      { served := s.requests.served, knownDark := knownDark s.requests.records, delays := s.geo.delays,
        transit := s.geo.transit,
        decided := ⟨(s.protocol.sides.get .east).decided, (s.protocol.sides.get .west).decided⟩ }) ∧
  s.fabric.generation ≤ 65535 ∧
  (∀ flight ∈ s.fabric.inFlight, flight.map.generation = some s.fabric.generation ∧ 1 ≤ s.fabric.generation) ∧
  (s.gateOpen = true → s.fabric.mapPending = true → s.fabric.inFlight.isSome = true)

/-- The armed flag is set only while the load state is LOADED (R181, R182, R184). -/
def ArmedOnlyLoaded (s : State) : Prop := s.loader.armed = true → s.loader.load = .loaded

/-- RDY is low and both slots are empty during a reset; out of reset RDY is high and the request slot free (R153). -/
def PortSound (s : State) : Prop :=
  s.mgmt.requestSlot = none ∧ (s.mgmt.rdy = true ↔ s.loader.load ≠ .noLoad) ∧
  (s.loader.load = .noLoad → s.mgmt.answerSlot = none)

/-- The settings lie in their ranges (R50, R75). -/
def SettingsInRange (s : State) : Prop :=
  s.settings.holdOff ≤ 100 ∧ 1 ≤ s.settings.clearSoak ∧ s.settings.clearSoak ≤ 60 ∧ s.settings.settle ≤ 720 ∧
  1 ≤ s.settings.dimThreshold ∧ s.settings.dimThreshold ≤ 15

/-- The Identity Loader's buffer, byte timer and bus by its load state (R178, R179, R185): while LOADING a byte is requested
and each byte read has been acknowledged; a buffer that is full holds 83 bytes, and its transaction has ended. -/
def LoaderSound (s : State) : Prop :=
  let l := s.loader
  let acknowledged (n : Nat) : List BusItem :=
    [.start, .device 0x50#7 false, .byteAddress 0x00#8, .start, .device 0x50#7 true] ++ List.replicate n .acknowledge
  match l.load with
  | .noLoad => l.image = [] ∧ l.byteTimer = none ∧ l.bus = []
  | .loading => l.image.length ≤ 82 ∧ l.byteTimer.isSome = true ∧ l.bus = acknowledged l.image.length
  | .loadFailed => l.image.length ≤ 83 ∧ l.byteTimer = none
  | _ => l.image.length = 83 ∧ l.byteTimer = none ∧ l.bus = acknowledged 82 ++ [.noAcknowledge, .stop]

end Sys2Proof.Machine
end

