-- ==== Sys2Proof/Certificates/Slice0/Obligations.lean ====
section
/-!
DEFINITION. The statements for the provers, chapter by chapter. Where a statement speaks of a command's answer it uses the
words of Safety.lean: what the command changes, what it answers, and the effect it has.
-/

open Sys2Proof Sys2Proof.Machine

/-! ### The machine as a whole -/

/-- A step takes the command at the front of the queue, whole; with nothing waiting the part idles (log entry 4, the
model's choice). -/
def Obligations.StepRunsFrontCommand : Prop :=
  ∀ (c : Instr) (rest : List Instr) (s : State),
    step (s.setPending (c :: rest)) = exec c (s.setPending rest) ∧ (s.pending = [] → step s = .next s)

/-- No command stops the part (log entry 16, the model's reading), and none touches the queue, a reset included (log entry
30, the model's reading). While a power-on or pin reset lasts, every command but the resets themselves, their release, the
input lines and the passing of time leaves every piece of state as it is (R185; log entry 9, the model's reading of which
commands those are). -/
def Obligations.EveryCommandGoesOn : Prop :=
  ∀ (c : Instr) (s : State),
    (∃ t, exec c s = .next t ∧ t.pending = s.pending) ∧
    (s.loader.load = .noLoad → c ≠ .powerOnReset → c ≠ .pinReset → c ≠ .resetRelease → c ≠ .noticePeriod →
      (∀ x los lock grade, c ≠ .receiverConditionChange x los lock grade) → (∀ b, c ≠ .freezePinChange b) →
      exec c s = .next s)

/-! ### Resets and the identity load (chapter 11) -/

/-- Power-on and pin reset leave the blocks at the values the chapters give them (R41, R52, R66, R91, R110, R131,
R150, R153, R177, R185); the input lines stand (log entry 2), and so do the queue and the clock (log entries 30 and 3).
When a reset ends, a load begins, with the address phases of its transaction on the bus (R178, R179, R185), and the port
becomes ready with both slots empty (R153). The time until byte 0 is requested, from which its 10 ms run, is free (log
entry 17), and the event has no meaning outside a reset (log entry 20). What a log entry is named for is the model's
choice. -/
def Obligations.ResetsAndTheirRelease : Prop :=
  (∀ s : State, ∃ t, exec .powerOnReset s = .next t ∧ exec .pinReset s = .next t ∧
      t.pins = s.pins ∧ t.now = s.now ∧ t.pending = s.pending ∧
      t.loader = { load := .noLoad, image := [], byteTimer := none, bus := [], armed := false } ∧
      t.ring = none ∧ t.table = { circuits := [], cursor := none } ∧
      t.settings = { holdOff := 0, clearSoak := 10, settle := 300, dimThreshold := 6 } ∧
      (∀ x : Side,
        t.monitors.get x =
          { raw := .clear, declared := .clear, dimTimer := none, darkTimer := none, soakTimer := none } ∧
        (t.ports.get x).transmit = none ∧ (t.ports.get x).run = none ∧ (t.ports.get x).standing = none ∧
        (t.ports.get x).link = .down ∧ (t.ports.get x).downTimer = none ∧
        t.requests.sides.get x = { line := .none, operator := .none, settleTimer := none, echo := none } ∧
        (t.protocol.sides.get x).decided = .idle ∧ (t.protocol.sides.get x).realised = .idle ∧
        (t.protocol.sides.get x).answer = .stopped) ∧
      t.requests.records = [] ∧ t.requests.served = [] ∧ t.requests.role = .idle ∧
      t.plan = { sweep := none, restarts := 0, followUp := false, committed := none } ∧
      t.fabric.committed = none ∧ t.fabric.inFlight = none ∧ t.fabric.generation = 0 ∧
      t.fabric.freezeFlag = false ∧ t.gateOpen = false ∧
      t.mgmt.requestSlot = none ∧ t.mgmt.answerSlot = none ∧ t.mgmt.rdy = false ∧
      (∀ g : FaultGroup, t.attention.records.ofGroup g = none ∧ t.attention.causes.ofGroup g = false ∧
        t.attention.masks.ofGroup g = true) ∧
      t.attention.causes.plan = false ∧ t.attention.masks.plan = true ∧ t.attention.moreFaults = false ∧ t.attn = false) ∧
  (∀ s : State,
      (s.loader.load = .noLoad →
        Effects .resetRelease s [.loader, .mgmt] fun t =>
          t.loader.load = .loading ∧ t.loader.image = [] ∧
          t.loader.byteTimer = some (s.now + (addressPeriods s.now + 80)) ∧
          t.loader.bus = [.start, .device 0x50#7 false, .byteAddress 0x00#8, .start, .device 0x50#7 true] ∧
          t.loader.armed = s.loader.armed ∧ t.mgmt.requestSlot = none ∧ t.mgmt.answerSlot = none ∧ t.mgmt.rdy = true) ∧
      (s.loader.load ≠ .noLoad → exec .resetRelease s = .next s))

/-- A delivered image byte is stored at the next address and acknowledged; the 83rd is left unacknowledged, the transaction
ends with a stop condition, and the load goes to CHECKING (R179). A read failure ends the load at once with READ-FAILED and
the address of the first byte not read; a byte not delivered is one once its 10 ms have passed (R179). The model's choices:
outside LOADING, and before the 10 ms have passed, these events change nothing (log entries 8 and 3), and the 10 ms of a
byte run from the delivery of the byte before it (log entry 17). -/
def Obligations.ImageBytesAndReadFailures : Prop :=
  (∀ (s : State) (v : Byte),
      (s.loader.load = .loading → s.loader.image.length ≤ 82 →
        Effects (.configByteRead v) s [.loader] fun t =>
          t.loader.image = s.loader.image ++ [v] ∧ t.loader.armed = s.loader.armed ∧
          t.loader.load = (if s.loader.image.length = 82 then .checking else .loading) ∧
          t.loader.byteTimer = (if s.loader.image.length = 82 then none else some (s.now + 80)) ∧
          t.loader.bus = s.loader.bus ++ (if s.loader.image.length = 82 then [.noAcknowledge, .stop] else [.acknowledge])) ∧
      (s.loader.load ≠ .loading → exec (.configByteRead v) s = .next s)) ∧
  (∀ (s : State) (c : Instr), c = .readFailed ∨ (c = .configByteTimeout ∧ timerDue s s.loader.byteTimer) →
      (s.loader.load = .loading →
        Effects c s [.loader, .attention] fun t =>
          t.loader = { s.loader with load := .loadFailed, byteTimer := none } ∧
          t.attention = s.attention.report .load .readFailed s.loader.image.length) ∧
      (s.loader.load ≠ .loading → exec c s = .next s)) ∧
  (∀ s : State, ¬timerDue s s.loader.byteTimer → exec .configByteTimeout s = .next s)

/-- The five checks of an image in their order, each with its kind and detail (R180): what a failing image is reported
with. -/
def Obligations.FailingImageIsRefused : Prop :=
  ∀ (s : State) (kind : FaultKind) (detail : Nat), s.loader.load = .checking →
    let image := s.loader.image
    let at' (a : Nat) : Byte := image.getD a 0
    let n := (at' 1).toNat
    let self := (at' 2).toNat % 64
    let ids := (List.range n).map fun i => (at' (3 + i)).toNat % 64
    (if wordOf (at' 81) (at' 82) ≠ crc16 (image.take 81) then kind = .imageCheck ∧ detail = 0
     else if n < 3 ∨ 24 < n then kind = .size ∧ detail = n
     else if self ∉ ids then kind = .selfMissing ∧ detail = self
     else if 2 ≤ ids.count self then kind = .selfTwice ∧ detail = self
     else kind = .duplicateId ∧ ∃ j, ids[j]? = some detail ∧ detail ∈ ids.take j ∧ (ids.take j).Nodup) →
    Effects .imageCheck s [.loader, .attention] fun t =>
      t.loader = { s.loader with load := .loadFailed, byteTimer := none } ∧
      t.attention = s.attention.report .load kind detail

/-- An image that passes fills the ring, rotated so that the self id comes first, and the settings, every value clamped
(R2, R3, R50, R75, R169, R180); and the held blocks start at their values at load, shown for a hold-off other than 0 (R44,
R55, R68, R91, R110). The order in which the two monitors start is free (log entry 5). -/
def Obligations.PassingImageLoads : Prop :=
  ∀ s : State, s.loader.load = .checking →
    let image := s.loader.image
    let at' (a : Nat) : Byte := image.getD a 0
    let n := (at' 1).toNat
    let self := (at' 2).toNat % 64
    let ids := (List.range n).map fun i => (at' (3 + i)).toNat % 64
    wordOf (at' 81) (at' 82) = crc16 (image.take 81) → 3 ≤ n → n ≤ 24 → self ∈ ids → ids.Nodup →
    Effects .imageCheck s
      ([.loader, .ring, .settings, .monitors, .ports, .requests, .protocol, .orders] ++
        if at' 76 = 0 then [.plan, .attention] else [])
      fun t =>
        t.loader = { s.loader with load := .loaded, byteTimer := none } ∧
        t.settings = { holdOff := min (at' 76).toNat 100, clearSoak := max 1 (min (at' 77).toNat 60),
                       settle := min (wordOf (at' 79) (at' 80)) 720, dimThreshold := max 1 (min (at' 78).toNat 15) } ∧
        (∃ r, t.ring = some r ∧ r.ringTag = (at' 0).toNat / 16 ∧
          (r.style = .crossed ↔ (at' 0).toNat / 8 % 2 = 1) ∧ r.transit = min (at' 75).toNat 15 ∧
          r.positions.length = n ∧ r.delays.length = n ∧
          ∀ i0, ids[i0]? = some self → ∀ i < n,
            r.positions[(i + n - i0) % n]? = ids[i]? ∧
            r.delays[(i + n - i0) % n]? = some (min (wordOf (at' (27 + 2 * i)) (at' (28 + 2 * i))) 4095)) ∧
        (at' 76 ≠ 0 → ∀ x : Side,
          t.monitors.get x =
            { raw := t.rawLevel x, declared := .clear, dimTimer := some (s.now + t.settings.holdOff * 80),
              darkTimer := if t.rawLevel x = .dark then some (s.now + t.settings.holdOff * 80) else none,
              soakTimer := none } ∧
          t.ports.get x =
            { transmit := some (t.geo.ownQuiet x), run := none, standing := none, link := .down, downTimer := none,
              sent := (s.ports.get x).sent } ∧
          t.requests.sides.get x = { line := .none, operator := .none, settleTimer := none, echo := none } ∧
          t.requests.records = List.replicate n { kind := .quiet, reporters := [], dark := false, served := false } ∧
          t.requests.served = [] ∧ t.requests.role = .idle ∧
          (t.protocol.sides.get x).decided = .idle ∧ (t.protocol.sides.get x).realised = .idle ∧
          (t.protocol.sides.get x).answer = .stopped ∧ t.protocol.served = [] ∧ t.protocol.role = .idle)

/-- An accepted ARM sets the armed flag, may publish the waiting map, and triggers a sweep; an ARM of an armed part changes
nothing (R181). The Fabric Port and the Plan Engine own separate state, so either order gives this. Bits of the answer's
flags byte with no meaning are 0 (log entry 33, the model's choice). -/
def Obligations.ArmOpensTheGate : Prop :=
  ∀ s : State, hostReady s →
    Answers (.arm []) s [.loader, .fabric, .plan, .attention] 0x50#8 .done
      (fun _ => [byteOf (2 + if s.frozen then 0 else 1)])
      fun t =>
        (s.loader.armed = true → t.loader = s.loader ∧ t.fabric = s.fabric ∧ t.plan = s.plan ∧
          t.attention = s.attention) ∧
        (s.loader.armed = false → t.loader = { s.loader with armed := true } ∧ triggered s t ∧
          publishesIf (s.frozen = false) s.fabric t.fabric s.now)

/-- What a soft RESTART clears and keeps (R41, R151, R161, R177, R182 to R184). Taken in LOADED, the blocks held until then
take their values at load, each monitor forming its raw level from its inputs: shown whole for a hold-off other than 0, and
for the monitors and the line parts at a hold-off of 0, where each side is declared at its raw level at once (R47, R52,
R67, R68, R91, R110). Otherwise a new load begins, they are at their held values (R44, R66, R91, R110), and the bus and the
time to the request for byte 0 are those of a load's beginning (log entry 17, the model's choice). The order in which the
two monitors start is free (log entry 5). -/
def Obligations.RestartClearsAndKeeps : Prop :=
  ∀ s : State, portReady s →
    Answers (.restart []) s
      [.loader, .table, .monitors, .ports, .requests, .protocol, .plan, .fabric, .attention, .orders] 0x51#8 .done
      (fun _ => if s.loader.load = .loaded then [2] else [0])
      fun t =>
        t.loader = (if s.loader.load = .loaded then { s.loader with armed := false }
          else { load := .loading, image := [], byteTimer := some (s.now + (addressPeriods s.now + 80)),
                 bus := [.start, .device 0x50#7 false, .byteAddress 0x00#8, .start, .device 0x50#7 true],
                 armed := false }) ∧
        t.table = { circuits := s.table.circuits, cursor := none } ∧
        t.fabric = { s.fabric with committed := none, inFlight := none } ∧ t.gateOpen = false ∧
        t.plan.committed = none ∧
        (∀ x : Side, (t.ports.get x).standing = none ∧ (t.ports.get x).run = none ∧ (t.ports.get x).link = .down ∧
          (t.ports.get x).downTimer = none) ∧
        (s.loader.load ≠ .loaded ∨ s.settings.holdOff ≠ 0 →
          t.plan = { sweep := none, restarts := 0, followUp := false, committed := none } ∧
          t.attention = { causes := Causes.none, masks := s.attention.masks, records := FaultRecords.clear,
                          moreFaults := false } ∧
          t.attn = false ∧ t.requests.served = [] ∧ t.requests.role = .idle ∧ t.protocol.served = [] ∧
          t.protocol.role = .idle ∧
          ∀ x : Side,
            t.requests.sides.get x = { line := .none, operator := .none, settleTimer := none, echo := none }) ∧
        (s.loader.load ≠ .loaded →
          t.requests.records = [] ∧
          ∀ x : Side,
            t.monitors.get x =
              { raw := .clear, declared := .clear, dimTimer := none, darkTimer := none, soakTimer := none } ∧
            (t.ports.get x).transmit = none ∧
            t.protocol.sides.get x =
              { decided := .idle, realised := .idle, answer := .stopped, span := none, standing := none, choice := none }) ∧
        (s.loader.load = .loaded → s.settings.holdOff ≠ 0 →
          let quiet : SpanRecord := { kind := .quiet, reporters := [], dark := false, served := false }
          t.requests.records = List.replicate t.geo.size quiet ∧
          ∀ x : Side,
            t.monitors.get x =
              { raw := t.rawLevel x, declared := .clear, dimTimer := some (s.now + s.settings.holdOff * 80),
                darkTimer := if t.rawLevel x = .dark then some (s.now + s.settings.holdOff * 80) else none,
                soakTimer := none } ∧
            (t.ports.get x).transmit = some (t.geo.ownQuiet x) ∧
            t.protocol.sides.get x =
              { decided := .idle, realised := .idle, answer := .stopped, span := some quiet, standing := none,
                choice := some (t.geo.ownQuiet x) }) ∧
        (s.loader.load = .loaded → s.settings.holdOff = 0 → ∀ x : Side,
          t.monitors.get x =
            { raw := t.rawLevel x, declared := t.rawLevel x, dimTimer := none, darkTimer := none, soakTimer := none } ∧
          (t.requests.sides.get x).line = (if t.rawLevel x = .dark then .dark else .dim) ∧
          (t.requests.sides.get x).operator = .none)

/-! ### Circuit Table (chapter 2) -/

/-- An ADD that passes every check: the record enters its chain in order, the cursor may be disturbed, a sweep starts, and
the answer tells the route (R17, R23, R28, R39); bits of its flags byte with no meaning are 0 (log entry 33, the model's
choice). -/
def Obligations.AddAccepted : Prop :=
  ∀ (s : State) (r : Ring) (c : Circuit) (codes : Byte) (label : List Byte),
    hostReady s → s.sweeping = false → TablesSound s → s.ring = some r →
    c.sound r → c.label = (if label = [] then none else some (label.take 16)) → label.length ≤ 31 →
    codes.toNat / 64 = c.direction.code → codes.toNat / 16 % 4 = c.cls.code → codes.toNat / 4 % 4 = c.policy.code →
    (∀ d ∈ s.table.circuits, d.id ≠ c.id) →
    (∀ d ∈ s.table.circuits, d.channel = c.channel → r.overlap (r.circuitRoute d) (r.circuitRoute c) = false) →
    s.table.circuits.length < 2048 →
    Answers
      (.add (wordBytes c.id ++ [byteOf c.channel, byteOf c.source, byteOf c.destination, codes] ++ wordBytes c.ceiling
        ++ byteOf label.length :: label))
      s [.table, .plan] 0x10#8 .done
      (fun _ => wordBytes c.id ++ [byteOf (r.westId (r.startSpan c)), byteOf (r.circuitRoute c).hops,
        byteOf (r.roleOf (r.circuitRoute c)).code, if 16 < label.length then 1 else 0])
      fun t =>
        (∃ before after, s.table.circuits = before ++ after ∧ t.table.circuits = before ++ c :: after ∧
          (∀ d ∈ before, r.chainBefore d c = true) ∧ ∀ d ∈ after, r.chainBefore c d = true) ∧
        t.table.cursor = (s.table.cursor.map fun k =>
          if k.lo ≤ c.channel ∧ c.channel ≤ k.hi then { k with disturbed := true } else k) ∧
        sweepStarted s t

/-- The checks of ADD in their order, each with its answer, the table left unchanged (R27). -/
def Obligations.AddRefusals : Prop :=
  ∀ (s : State) (r : Ring) (i1 i0 ch src dst codes c1 c0 : Byte) (label : List Byte),
    hostReady s → s.sweeping = false → s.ring = some r → label.length ≤ 31 →
    let refused := AnswersOnly (.add (i1 :: i0 :: ch :: src :: dst :: codes :: c1 :: c0 :: byteOf label.length :: label))
      s 0x10#8
    let id := wordOf i1 i0
    let route := r.route ((r.positionOf src.toNat).getD 0) ((r.positionOf dst.toNat).getD 0)
      (if codes.toNat / 64 = 0 then .east else .west)
    let clashes (d : Circuit) := d.channel = ch.toNat ∧ r.overlap (r.circuitRoute d) route = true
    (if 4095 < id then refused .invalid [1]
     else if 79 < ch.toNat then refused .invalid [2]
     else if 63 < src.toNat ∨ 63 < dst.toNat ∨ r.positionOf src.toNat = none ∨ r.positionOf dst.toNat = none then
       refused .invalid [3]
     else if src = dst then refused .invalid [4]
     else if 1 < codes.toNat / 64 ∨ 2 < codes.toNat / 16 % 4 ∨ 1 < codes.toNat / 4 % 4 then refused .invalid [5]
     else if ¬(codes.toNat / 16 % 4 = 2 ↔ 40 ≤ ch.toNat) then refused .invalid [6]
     else if ∃ d ∈ s.table.circuits, d.id = id then refused .taken []
     else if ∃ d ∈ s.table.circuits, clashes d then
       ∃ before d after, s.table.circuits = before ++ d :: after ∧ clashes d ∧ (∀ e ∈ before, ¬clashes e) ∧
         refused .clash (wordBytes d.id)
     else 2048 ≤ s.table.circuits.length → refused .full [])

/-- EDIT: its checks in order, and the accepted EDIT, which replaces the given fields and triggers a sweep only when the
class, the ceiling or the policy changes (R29, R30). The model's choices: the truncated flag is clear when the label mark
is clear (log entry 22), bits 7..4 of the given marks are disregarded (log entry 24), and bits of the answer's flags byte
with no meaning are 0 (log entry 33). -/
def Obligations.EditByGivenMarks : Prop :=
  ∀ (s : State) (i1 i0 marks codes c1 c0 : Byte) (label : List Byte),
    hostReady s → s.sweeping = false → TablesSound s → label.length ≤ 33 →
    let edit := Instr.edit (i1 :: i0 :: marks :: codes :: c1 :: c0 :: byteOf label.length :: label)
    let id := wordOf i1 i0
    let given (k : Nat) : Bool := marks.toNat / 2 ^ k % 2 == 1
    (if 4095 < id then AnswersOnly edit s 0x11#8 .invalid [1]
     else if (given 3 = true ∧ 2 < codes.toNat / 16 % 4) ∨ (given 1 = true ∧ 1 < codes.toNat / 4 % 4) then
       AnswersOnly edit s 0x11#8 .invalid [5]
     else if ¬∃ c ∈ s.table.circuits, c.id = id then AnswersOnly edit s 0x11#8 .absent []
     else ∀ c ∈ s.table.circuits, c.id = id → ∀ (cls : CircuitClass) (policy : LatePolicy),
       (if given 3 then cls.code = codes.toNat / 16 % 4 else cls = c.cls) →
       (if given 1 then policy.code = codes.toNat / 4 % 4 else policy = c.policy) →
       let ceiling := if given 2 then wordOf c1 c0 else c.ceiling
       let new : Circuit := { c with
         cls := cls, policy := policy, ceiling := ceiling
         label := if given 0 then (if label = [] then none else some (label.take 16)) else c.label }
       let changed := cls ≠ c.cls ∨ policy ≠ c.policy ∨ ceiling ≠ c.ceiling
       if ¬(c.cls = .extra ↔ cls = .extra) then AnswersOnly edit s 0x11#8 .invalid [6]
       else
         Answers edit s [.table, .plan] 0x11#8 .done
           (fun _ => [i1, i0, byteOf ((if changed then 2 else 0) + if given 0 = true ∧ 16 < label.length then 1 else 0)])
           fun t =>
             t.table = { s.table with circuits := s.table.circuits.map fun d => if d.id = id then new else d } ∧
             (changed → sweepStarted s t) ∧ (¬changed → t.plan = s.plan))

/-- RETIRE: an id above 4095, an id with no record, and the accepted RETIRE, after which no record has the id while the
committed plan and map stand (R31). -/
def Obligations.RetireRemovesRecord : Prop :=
  ∀ (s : State) (i1 i0 : Byte), hostReady s → s.sweeping = false → TablesSound s →
    let id := wordOf i1 i0
    (if 4095 < id then AnswersOnly (.retire [i1, i0]) s 0x12#8 .invalid [8]
     else if ¬∃ c ∈ s.table.circuits, c.id = id then AnswersOnly (.retire [i1, i0]) s 0x12#8 .absent []
     else ∀ c ∈ s.table.circuits, c.id = id →
       Answers (.retire [i1, i0]) s [.table, .plan] 0x12#8 .done (fun _ => [i1, i0, byteOf c.channel]) fun t =>
         (∃ before after, s.table.circuits = before ++ c :: after ∧ t.table.circuits = before ++ after) ∧
         (∀ d ∈ t.table.circuits, d.id ≠ id) ∧
         t.table.cursor = (s.table.cursor.map fun k =>
           if k.lo ≤ c.channel ∧ c.channel ≤ k.hi then { k with disturbed := true } else k) ∧
         sweepStarted s t)

/-- READ answers with the stored and derived fields of the record and its plan fields (R21, R32, R33, R166), and
CHANNEL-READ with the record of the channel whose route covers the span, or NONE (R34, R166); neither changes anything.
The plan byte and the restored figures are written out, 0 where READ has none; the model's choice is that the late mark's
bit is 0 where the action is not RESTORED, and that the restored figures of a CHANNEL-READ answer that has none and the bits
of the flags byte with no meaning are 0 (log entry 33). -/
def Obligations.LookupsAnswerRecords : Prop :=
  let planBytes (s : State) (id : Nat) : List Byte :=
    let pending := if s.sweeping then 1 else 0
    match s.plan.actionFor id with
    | none => [byteOf pending, 0, 0, 0]
    | some .carried => [byteOf (1 * 16 + pending), 0, 0, 0]
    | some .down => [byteOf (2 * 16 + pending), 0, 0, 0]
    | some (.restored hops latency late) =>
        byteOf (3 * 16 + (if late then 2 else 0) + pending) :: byteOf hops :: wordBytes latency
    | some (.squelched .islands) => [byteOf (4 * 16 + 1 * 4 + pending), 0, 0, 0]
    | some (.squelched .late) => [byteOf (4 * 16 + 2 * 4 + pending), 0, 0, 0]
    | some .preempted => [byteOf (5 * 16 + pending), 0, 0, 0]
    | some .outside => [byteOf (6 * 16 + pending), 0, 0, 0]
  (∀ (s : State) (r : Ring) (i1 i0 : Byte), hostReady s → TablesSound s → s.ring = some r →
      let id := wordOf i1 i0
      (if 4095 < id then AnswersOnly (.read [i1, i0]) s 0x13#8 .invalid [8]
       else if ¬∃ c ∈ s.table.circuits, c.id = id then AnswersOnly (.read [i1, i0]) s 0x13#8 .absent []
       else ∀ c ∈ s.table.circuits, c.id = id → ∀ pa pb, r.positionOf c.source = some pa →
         r.positionOf c.destination = some pb →
         let route := r.route pa pb c.direction
         let label := c.label.getD []
         AnswersOnly (.read [i1, i0]) s 0x13#8 .done
           ([i1, i0, byteOf c.channel, byteOf c.source, byteOf c.destination,
             byteOf (c.direction.code * 64 + c.cls.code * 16 + c.policy.code * 4)] ++ wordBytes c.ceiling
             ++ byteOf label.length :: label
             ++ [byteOf pa, byteOf pb, byteOf (r.westId route.start), byteOf route.hops, byteOf (r.roleOf route).code]
             ++ wordBytes (min (r.delaySum r.delays route.start route.hops + (route.hops - 1) * r.transit) 65535)
             ++ planBytes s id))) ∧
  (∀ (s : State) (r : Ring) (channel west : Byte), hostReady s → TablesSound s → s.ring = some r →
      let read := AnswersOnly (.channelRead [channel, west]) s 0x14#8
      let pending := if s.sweeping then 1 else 0
      (if 79 < channel.toNat ∨ r.positionOf (west.toNat % 64) = none then read .invalid [8]
       else ∀ span, r.positionOf (west.toNat % 64) = some span →
         (∀ c ∈ s.table.circuits, c.channel = channel.toNat → r.covers (r.circuitRoute c) span = true →
           read .done ([byteOf (128 + pending)] ++ wordBytes c.id ++ [byteOf c.source, byteOf c.destination,
             byteOf (c.direction.code * 64 + c.cls.code * 16 + c.policy.code * 4), byteOf (r.circuitRoute c).hops]
             ++ wordBytes (r.workingLatency c) ++ planBytes s c.id)) ∧
         ((∀ c ∈ s.table.circuits, c.channel = channel.toNat → r.covers (r.circuitRoute c) span = false) →
           read .done [byteOf pending])))

/-- WALK: the window check, the choice of the cursor, the entries taken with and without the wrap flag, the place after
them, and the disturbed mark reported and cleared (R35 to R40). The model's choices: bits 7..2 of the request's flags byte
are disregarded (log entry 24), an entry's bytes are those of R166, whose codes byte holds the late policy, against R40 (log
entry 31), and bits of the answer with no meaning are 0 (log entry 33). -/
def Obligations.WalkTakesEntries : Prop :=
  ∀ (s : State) (lo hi flags : Byte) (walk : Instr), hostReady s →
    walk = .walkStart [lo, hi, flags] ∨ walk = .walkContinue [lo, hi, flags] →
    (if 79 < lo.toNat ∨ 79 < hi.toNat ∨ hi.toNat < lo.toNat then AnswersOnly walk s 0x15#8 .invalid [8]
     else
       let fresh : Cursor :=
         { lo := lo.toNat, hi := hi.toNat, wrap := flags.toNat % 2 == 1, place := .start, disturbed := false }
       let k := if flags.toNat / 2 % 2 = 1 then fresh else s.table.cursor.getD fresh
       let window := s.table.circuits.filter fun c => decide (k.lo ≤ c.channel) && decide (c.channel ≤ k.hi)
       let ahead := window.filter (s.geo.liesAfter k.place)
       let again := window.filter fun c => !s.geo.liesAfter k.place c
       let full := 4 ≤ ahead.length
       let entries := if full then ahead.take 4 else if k.wrap then ahead ++ again.take (4 - ahead.length) else ahead
       let place := if full ∨ k.wrap = true then
           (match entries.getLast? with
            | some c => Place.mark c.channel (s.geo.startSpan c)
            | none => Place.start)
         else Place.finish
       let flagsByte := (if full ∨ k.wrap = true then 0 else 8) + (if k.wrap = true ∧ ¬full then 4 else 0)
         + (if k.disturbed then 2 else 0) + (if s.sweeping then 1 else 0)
       Answers walk s [.table] 0x15#8 .done
         (fun _ => [byteOf flagsByte, byteOf entries.length] ++ entries.flatMap fun c =>
           wordBytes c.id ++ [byteOf c.channel, byteOf c.source, byteOf c.destination,
             byteOf (c.direction.code * 64 + c.cls.code * 16 + c.policy.code * 4),
             byteOf (((s.plan.actionFor c.id).map Action.code).getD 0 * 16)])
         fun t => t.table = { circuits := s.table.circuits,
                              cursor := some { k with place := place, disturbed := false } })

/-! ### Ring Table and settings (chapters 1, 3 and 9) -/

/-- SPAN-READ answers with the static part of the span and its record, and changes nothing (R15, R167). Bits of a byte of
the answer with no meaning are 0 (log entry 33, the model's choice). -/
def Obligations.SpanReadAnswersSpan : Prop :=
  ∀ (s : State) (r : Ring) (west : Byte), hostReady s → s.ring = some r →
    (r.positionOf (west.toNat % 64) = none → AnswersOnly (.spanRead [west]) s 0x20#8 .invalid [8]) ∧
    ∀ span held, r.positionOf (west.toNat % 64) = some span → s.requests.records[span]? = some held →
      AnswersOnly (.spanRead [west]) s 0x20#8 .done
        ([byteOf (r.idAt span), byteOf (r.idAt (r.next span)), byteOf (min (r.idAt span) (r.idAt (r.next span)))]
          ++ wordBytes (r.delays.getD span 0)
          ++ [byteOf r.positions.length, byteOf (r.ringTag * 16 + (if r.style = .crossed then 8 else 0)), byteOf r.transit,
              byteOf held.kind.code, byteOf ((if held.dark then 2 else 0) + if held.served then 1 else 0),
              byteOf held.reporters.length]
          ++ held.reporters.flatMap fun p =>
            [byteOf p.id, byteOf ((p.kind.map Kind.code).getD 15), byteOf ((p.state.map SideState.code).getD 3)])

/-- SPAN-DELAY, its four cases in order: the delay stored, clamped to 4095, and a sweep started exactly when it changes
(R12). Bits of the answer's flags byte with no meaning are 0 (log entry 33, the model's choice). -/
def Obligations.SpanDelayIsStored : Prop :=
  ∀ (s : State) (west d1 d0 : Byte), portReady s →
    let request := Instr.spanDelay [west, d1, d0]
    (s.loader.load ≠ .loaded → AnswersOnly request s 0x21#8 .locked []) ∧
    (s.loader.load = .loaded → s.sweeping = true → AnswersOnly request s 0x21#8 .busy []) ∧
    (s.loader.load = .loaded → s.sweeping = false → ∀ r, s.ring = some r →
      (r.positionOf (west.toNat % 64) = none → AnswersOnly request s 0x21#8 .invalid [8]) ∧
      ∀ span, r.positionOf (west.toNat % 64) = some span →
        let stored := min (wordOf d1 d0) 4095
        Answers request s [.ring, .plan] 0x21#8 .done
          (fun _ => [byteOf (r.idAt span), byteOf (r.idAt (r.next span))] ++ wordBytes stored
            ++ [if 4095 < wordOf d1 d0 then 1 else 0])
          fun t =>
            t.ring = some { r with delays := r.delays.set span stored } ∧
            (r.delays.getD span 0 ≠ stored → sweepStarted s t) ∧ (r.delays.getD span 0 = stored → t.plan = s.plan))

/-- SETTINGS-READ answers with the six settings as stored (R158, R167). SETTINGS-WRITE stores every given setting at once,
each clamped; a changed transit delay starts a sweep; with the DIM threshold unchanged nothing else changes, and with it
changed each monitor forms its raw level again (R14, R50, R51, R75, R159). The model's choices: the sweep flag is set by a
changed transit delay alone (log entry 22), bits 7..6 of the given marks are disregarded (log entry 24), and bits of the
answer's flag bytes with no meaning are 0 (log entry 33). -/
def Obligations.SettingsReadAndWrite : Prop :=
  (∀ (s : State) (r : Ring), hostReady s → s.ring = some r →
      AnswersOnly (.settingsRead []) s 0x40#8 .done
        ([byteOf s.settings.holdOff, byteOf s.settings.clearSoak] ++ wordBytes s.settings.settle
          ++ [byteOf s.settings.dimThreshold, byteOf r.transit,
              byteOf ((if s.attention.masks.plan then 64 else 0) + (if s.attention.masks.linkE then 32 else 0)
                + (if s.attention.masks.linkW then 16 else 0) + (if s.attention.masks.protocol then 8 else 0)
                + (if s.attention.masks.fabric then 4 else 0) + (if s.attention.masks.mgmt then 2 else 0)
                + if s.attention.masks.load then 1 else 0)])) ∧
  (∀ (s : State) (r : Ring) (marks hold soak s1 s0 dim transit masks : Byte),
      hostReady s → s.sweeping = false → s.ring = some r →
      let given (k : Nat) : Bool := marks.toNat / 2 ^ k % 2 == 1
      let clamped (k v low high : Nat) (weight : Nat) := if given k = true ∧ (v < low ∨ high < v) then weight else 0
      let newTransit := if given 1 then min transit.toNat 15 else r.transit
      let newDim := if given 2 then max 1 (min dim.toNat 15) else s.settings.dimThreshold
      Answers (.settingsWrite [marks, hold, soak, s1, s0, dim, transit, masks]) s
        [.settings, .ring, .attention, .plan, .monitors, .requests, .protocol, .ports, .orders] 0x41#8 .done
        (fun t => t.settingsBytes ++
          [byteOf (clamped 5 hold.toNat 0 100 32 + clamped 4 soak.toNat 1 60 16 + clamped 3 (wordOf s1 s0) 0 720 8
            + clamped 2 dim.toNat 1 15 4 + clamped 1 transit.toNat 0 15 2), if newTransit ≠ r.transit then 1 else 0])
        fun t =>
          t.settings =
            { holdOff := if given 5 then min hold.toNat 100 else s.settings.holdOff
              clearSoak := if given 4 then max 1 (min soak.toNat 60) else s.settings.clearSoak
              settle := if given 3 then min (wordOf s1 s0) 720 else s.settings.settle
              dimThreshold := newDim } ∧
          t.ring = some { r with transit := newTransit } ∧
          t.attention.masks =
            (if given 0 then
              { plan := masks.toNat / 64 % 2 == 1, linkE := masks.toNat / 32 % 2 == 1, linkW := masks.toNat / 16 % 2 == 1,
                protocol := masks.toNat / 8 % 2 == 1, fabric := masks.toNat / 4 % 2 == 1, mgmt := masks.toNat / 2 % 2 == 1,
                load := masks.toNat % 2 == 1 }
            else s.attention.masks) ∧
          (newDim = s.settings.dimThreshold →
            t.monitors = s.monitors ∧ t.requests = s.requests ∧ t.protocol = s.protocol ∧ t.ports = s.ports ∧
            t.attention = { s.attention with masks := t.attention.masks } ∧
            (newTransit ≠ r.transit → sweepStarted s t) ∧ (newTransit = r.transit → t.plan = s.plan)) ∧
          (newDim ≠ s.settings.dimThreshold → ∀ x : Side, (t.monitors.get x).raw = t.rawLevel x))

/-! ### Line Monitors (chapter 3) -/

/-- A change of the receiver lines: the raw level is formed from the inputs as they stand; a raw level that comes out equal
has no further effect; and with a hold-off other than 0 the declared level stands and the timers move by Table 15 (R42 to
R48). A held monitor disregards the change (R44). -/
def Obligations.ReceiverChangeFormsRaw : Prop :=
  ∀ (s : State) (x : Side) (los lock : Bool) (grade : BitVec 4),
    Effects (.receiverConditionChange x los lock grade) s
      [.pins, .monitors, .requests, .protocol, .ports, .plan, .attention, .orders]
      fun t =>
        let m := s.monitors.get x
        let raw : Level :=
          if los = true ∨ lock = false then .dark
          else if s.settings.dimThreshold ≤ grade.toNat ∨ (s.ports.get x).link = .down then .dim
          else .clear
        let holdOff : Timer := some (s.now + s.settings.holdOff * 80)
        t.pins = { s.pins with receivers := s.pins.receivers.set x { los := los, lock := lock, grade := grade } } ∧
        (s.loader.load ≠ .loaded ∨ raw = m.raw → onlyChanges [.pins] s t) ∧
        (s.loader.load = .loaded →
          (t.monitors.get x).raw = raw ∧ t.monitors.get x.opposite = s.monitors.get x.opposite ∧
          (raw ≠ m.raw → s.settings.holdOff ≠ 0 → onlyChanges [.pins, .monitors] s t ∧
            t.monitors.get x =
              { raw := raw, declared := m.declared
                dimTimer :=
                  if raw ≠ .clear ∧ m.declared = .clear then (if m.dimTimer = none then holdOff else m.dimTimer) else none
                darkTimer := if raw = .dark ∧ m.declared ≠ .dark then holdOff else none
                soakTimer :=
                  if raw.code < m.declared.code then some (s.now + s.settings.clearSoak * 8000) else none }) ∧
          (raw ≠ m.raw → s.settings.holdOff = 0 → m.declared.code < raw.code → m.dimTimer = none →
            t.monitors.get x =
              { raw := raw, declared := raw, dimTimer := none, darkTimer := none, soakTimer := none }))

/-- The expiry of a hold-off timer raises the declared level, stops the timers Table 14 says, and sets the line part (R45,
R46, R49, R71). The expiry of the soak timer sets the declared level to the raw level; a fall to CLEAR leaves line part
none, or, when the side was BRIDGED or SWITCHED, a SETTLE with its timer (R48, R72). That SETTLE stands exactly when the
side holds no operator part and the derivation with it serves the span (R74, R85): an operator part always outranks it. An
event that comes with its timer stopped, or before the moment the timer runs to, changes nothing (R47, R48; log entries 8
and 3, the model's reading). -/
def Obligations.MonitorTimersExpire : Prop :=
  ∀ (s : State) (x : Side), s.running = true → MonitorsSound s →
    let m := s.monitors.get x
    let l := s.requests.sides.get x
    let reach : List Block := [.monitors, .requests, .protocol, .ports, .plan, .attention, .orders]
    ((¬timerDue s m.dimTimer → exec (.dimTimerExpiry x) s = .next s) ∧
     (timerDue s m.dimTimer →
       Effects (.dimTimerExpiry x) s reach fun t =>
         t.monitors = s.monitors.set x { m with declared := .dim, dimTimer := none } ∧
         (t.requests.sides.get x).line = .dim ∧ (t.requests.sides.get x).settleTimer = none)) ∧
    ((¬timerDue s m.darkTimer → exec (.darkTimerExpiry x) s = .next s) ∧
     (timerDue s m.darkTimer →
       Effects (.darkTimerExpiry x) s reach fun t =>
         t.monitors = s.monitors.set x { m with declared := .dark, dimTimer := none, darkTimer := none } ∧
         (t.requests.sides.get x).line = .dark ∧ (t.requests.sides.get x).settleTimer = none)) ∧
    (¬timerDue s m.soakTimer → exec (.soakExpiry x) s = .next s) ∧
    (timerDue s m.soakTimer →
      Effects (.soakExpiry x) s reach fun t =>
        let q := t.requests.sides.get x
        t.monitors = s.monitors.set x { m with declared := m.raw, soakTimer := none } ∧
        (m.raw = .dim → q.line = .dim ∧ q.settleTimer = none) ∧
        (m.raw = .clear → (s.protocol.sides.get x).decided = .idle → q.line = .none ∧ q.settleTimer = none) ∧
        (m.raw = .clear → (s.protocol.sides.get x).decided ≠ .idle →
          let timer : Timer := if s.settings.settle = 0 then none else some (s.now + s.settings.settle * 8000)
          let held : LocalRequest := { l with line := .settle, settleTimer := timer }
          let falls := held.effective.code < l.effective.code
          let rises := l.effective.code < held.effective.code
          let echo := if falls then s.hearing.startEcho x else if rises then none else l.echo
          let first := s.hearing.derivePass (s.requests.sides.set x { held with echo := echo })
          (l.operator = .none ∧ (∃ e ∈ first.served, e.span = s.geo.facing x) →
            q.line = .settle ∧ q.settleTimer = timer ∧ q.effective = .settle ∧
              t.geo.isServed t.requests.served x = true) ∧
          (¬(l.operator = .none ∧ ∃ e ∈ first.served, e.span = s.geo.facing x) →
            q.line = .none ∧ q.settleTimer = none)))

/-! ### Supervisory links (chapter 4) -/

/-- A frame that is bad or rejected, by the checks in their order: the run is emptied, the fault reported with the origin id
as received, and nothing else changes (R57 to R59, R164). While the port is not LOADED it disregards the frame (R56). -/
def Obligations.BadFramesAreDiscarded : Prop :=
  ∀ (s : State) (x : Side) (frame : List Byte),
    let discarded (kind : FaultKind) (detail : Nat) :=
      Effects (.ringNotice x frame) s [.ports, .attention] fun t =>
        t.ports = s.ports.set x { s.ports.get x with run := none } ∧
        t.attention = s.attention.report (if x = .east then .linkE else .linkW) kind detail
    (s.loader.load ≠ .loaded → exec (.ringNotice x frame) s = .next s) ∧
    (s.loader.load = .loaded →
      ((∀ b1 b2 b3 c1 c0 rest, frame ≠ 0x4E#8 :: b1 :: b2 :: b3 :: c1 :: c0 :: 0x72#8 :: rest ∨
          rest.headD 0xFF#8 ≠ 0xFF#8) → discarded .framing 0) ∧
      ∀ b1 b2 b3 c1 c0 rest, frame = 0x4E#8 :: b1 :: b2 :: b3 :: c1 :: c0 :: 0x72#8 :: rest →
        rest.headD 0xFF#8 = 0xFF#8 →
        let origin := b2.toNat % 64
        if wordOf c1 c0 ≠ crc16 [b1, b2, b3] then discarded .check 0
        else if b1.toNat / 16 ≠ s.geo.ringTag then discarded .ringTag origin
        else if b1.toNat / 8 % 2 ≠ s.geo.style.code then discarded .mapStyle origin
        else ∀ pa pb, pa = s.geo.positionOf origin → pb = s.geo.positionOf (b3.toNat % 64) →
          match pa, pb with
          | some a, some b =>
            (b ≠ (a + 1) % s.geo.size ∧ a ≠ (b + 1) % s.geo.size) ∨ origin = s.geo.selfId ∨ b1.toNat % 8 = 7 ∨
              b2.toNat / 64 = 3 → discarded .malformed origin
          | _, _ => discarded .unknownNode origin)

/-- A good accepted frame: the run by R60, the link-down timer restarted while the link is UP, and at count 3 with new
content the standing notice, the link UP and its timer, handed to the Switch Protocol Unit and to the Request Unit, where
the link leaves every set-aside list but one started afresh (R60 to R62, R64, R84, R92). The order of those who take it is
free (log entry 5). -/
def Obligations.GoodFramesBuildStanding : Prop :=
  ∀ (s : State) (x : Side) (n : Notice) (rest : List Byte),
    s.running = true → TablesSound s → LinksSound s →
    n.ringTag = s.geo.ringTag → n.style = s.geo.style → s.geo.spanOf n ≠ none → n.origin ≠ s.geo.selfId →
    rest.headD 0xFF#8 = 0xFF#8 →
    Effects (.ringNotice x (n.frame ++ rest)) s [.monitors, .requests, .protocol, .ports, .plan, .attention, .orders]
      fun t =>
        let p := s.ports.get x
        let q := t.ports.get x
        let continues (r : Run) : Bool := r.candidate.sameContent n
        let run : Run := match p.run with
          | some r => if continues r then { candidate := r.candidate, count := min (r.count + 1) 3 } else ⟨n, 1⟩
          | none => ⟨n, 1⟩
        let completes : Prop := (∃ r, p.run = some r ∧ continues r = true ∧ r.count = 2) ∧
          ∀ old, p.standing = some old → old.sameContent n = false
        q.run = some run ∧
        (¬completes → onlyChanges [.ports] s t ∧
          t.ports = s.ports.set x { p with
            run := some run, downTimer := if p.link = .up then some (s.now + 24) else p.downTimer }) ∧
        (completes →
          (∃ m, q.standing = some m ∧ m.sameContent n = true) ∧ q.link = .up ∧ q.downTimer = some (s.now + 24) ∧
          (t.protocol.sides.get x).standing = q.standing ∧
          ∀ y hold, (t.requests.sides.get y).echo = some hold → x ∈ hold.links → hold.expiry = s.now + 64)

/-- The expiry of the link-down timer: standing notice removed, run emptied, link DOWN, timer stopped, DOWN reported with
the origin removed, and the removal handed on (R63). An event that comes with the timer stopped, or before the moment it
runs to, changes nothing: so a good accepted frame taken first, which restarts the timer, keeps the link UP (R63; log
entries 8 and 3, the model's reading). -/
def Obligations.LinkGoesDown : Prop :=
  ∀ (s : State) (x : Side), s.loader.load ≠ .noLoad →
    let p := s.ports.get x
    let group : FaultGroup := if x = .east then .linkE else .linkW
    (¬timerDue s p.downTimer → exec (.linkDown x) s = .next s) ∧
    (timerDue s p.downTimer → ∀ n, p.standing = some n →
      Effects (.linkDown x) s [.monitors, .requests, .protocol, .ports, .plan, .attention, .orders] fun t =>
        let q := t.ports.get x
        q.standing = none ∧ q.run = none ∧ q.link = .down ∧ q.downTimer = none ∧
        (t.protocol.sides.get x).standing = none ∧
        (s.attention.records.ofGroup group = none →
          t.attention.records.ofGroup group = some { kind := .down, detail := n.origin } ∧
          t.attention.causes.ofGroup group = true) ∧
        (s.attention.records.ofGroup group ≠ none →
          t.attention.records.ofGroup group = s.attention.records.ofGroup group ∧ t.attention.moreFaults = true) ∧
        (s.running = true → p.link = .up → (t.monitors.get x).raw = t.rawLevel x))

/-- A notice period: each port sends its transmit content as it stands while the load state is LOADED, and is silent
otherwise (R54, R55; the clock and the record of what is sent are the model's own, log entries 3 and 7). And what a port
sends, a port of the same ring accepts as the same content: the frame of a notice about a span of the ring with another
origin passes every receive check (R53, R57 to R59, R163, R164). -/
def Obligations.NoticesSentAreAccepted : Prop :=
  (∀ s : State,
      Effects .noticePeriod s [.ports, .now] fun t =>
        t.now = s.now + 1 ∧
        ∀ x : Side, t.ports.get x =
          { s.ports.get x with sent := if s.loader.load = .loaded then (s.ports.get x).transmit else none }) ∧
  (∀ (r : Ring) (n : Notice) (rest : List Byte), r.sound →
      n.ringTag = r.ringTag → n.style = r.style → r.spanOf n ≠ none → n.origin ≠ r.selfId → rest.headD 0xFF#8 = 0xFF#8 →
      r.sortFrame (n.frame ++ rest) = .accepted n ∧ n.frame.length = 7)

/-! ### Request Unit (chapter 5) -/

/-- An accepted BAR is held, and bars the node: the served set holds the span and BAR spans alone (R76, R77, R86, R89). The
answer is the seven bytes of R167, here and at FORCE, ASK and RELEASE: line part, operator part, effective kind, served
flag, settle timer, and the seconds left, rounded down. The model's choices: the seconds are formed from the clock (log
entry 3), 0 for a timer that does not run, and flag bits with no meaning are 0 (log entry 33). -/
def Obligations.BarLocksTheRing : Prop :=
  ∀ (s : State) (x : Side), hostReady s → TablesSound s → RequestsSettled s →
    Answers (.operatorBar [byteOf (Side.code x), 3]) s [.requests, .protocol, .ports, .plan, .attention, .orders] 0x30#8
      .done (fun t => operatorBytes t x) fun t =>
        (t.requests.sides.get x).operator = .bar ∧ t.requests.role = .barred ∧
        ({ span := t.geo.facing x, kind := .bar } : ServedEntry) ∈ t.requests.served ∧
        (∀ e ∈ t.requests.served, e.kind = .bar) ∧
        ((s.requests.sides.get x).operator = .bar → t.requests = s.requests)

/-- FORCE: refused while a BAR is served, naming the first blocking span in report order; accepted otherwise, and then
served unless a BAR that was set aside comes back (R76, R78, R84, R86, R87). The answer's bytes are those of R167 (log
entries 3 and 33 for the seconds and the flag bits, the model's choices). -/
def Obligations.ForceUnlessBarred : Prop :=
  ∀ (s : State) (x : Side), hostReady s → TablesSound s → RequestsSettled s →
    let force := Instr.operatorForce [byteOf (Side.code x), 2]
    ((∃ e ∈ s.requests.served, e.kind = .bar) →
      ∃ e ∈ s.requests.served, e.kind = .bar ∧
        (∀ f ∈ s.requests.served, f.kind = .bar → s.geo.reportedBefore f e = false) ∧
        AnswersOnly force s 0x30#8 .outranked
          [byteOf (s.geo.westId e.span), byteOf (s.geo.eastId e.span), byteOf e.kind.code]) ∧
    ((∀ e ∈ s.requests.served, e.kind ≠ .bar) →
      Answers force s [.requests, .protocol, .ports, .plan, .attention, .orders] 0x30#8 .done
        (fun t => operatorBytes t x) fun t =>
          (t.requests.sides.get x).operator = .force ∧
          (t.geo.isServed t.requests.served x = true ∨ ∃ e ∈ t.requests.served, e.kind = .bar) ∧
          ((s.requests.sides.get x).operator = .force → t.requests = s.requests))

/-- ASK: refused while another span is served at ASK or higher, naming the first blocking span; accepted otherwise. The
ASK stands only while its span is served; on a side with no operator part and no SETTLE an accepted ASK stands (R76,
R79, R80, R87). The answer's bytes are those of R167 (log entries 3 and 33, the model's choices). -/
def Obligations.AskUnlessOutranked : Prop :=
  ∀ (s : State) (x : Side), hostReady s → TablesSound s → RequestsSettled s →
    let ask := Instr.operatorAsk [byteOf (Side.code x), 1]
    let blocks (e : ServedEntry) := e ∈ s.requests.served ∧ 2 ≤ e.kind.code ∧ e.span ≠ s.geo.facing x
    ((∃ e, blocks e) →
      ∃ e, blocks e ∧ (∀ f, blocks f → s.geo.reportedBefore f e = false) ∧
        AnswersOnly ask s 0x30#8 .outranked
          [byteOf (s.geo.westId e.span), byteOf (s.geo.eastId e.span), byteOf e.kind.code]) ∧
    ((∀ e, ¬blocks e) →
      Answers ask s [.requests, .protocol, .ports, .plan, .attention, .orders] 0x30#8 .done
        (fun t => operatorBytes t x) fun t =>
          let l := t.requests.sides.get x
          (l.operator = .ask ∨ l.operator = .none) ∧
          (l.operator = .ask → t.geo.isServed t.requests.served x = true) ∧
          ((s.requests.sides.get x).operator = .none → (s.requests.sides.get x).line ≠ .settle → l.operator = .ask) ∧
          ((s.requests.sides.get x).operator = .ask → t.requests = s.requests))

/-- RELEASE clears the operator part and a SETTLE, leaves a line part of DIM or DARK, and starts the echo hold afresh when
the side falls; with nothing to release it is answered ABSENT and changes nothing (R70, R76, R81, R84). The answer's bytes
are those of R167 (log entries 3 and 33, the model's choices). -/
def Obligations.ReleaseClearsTheSide : Prop :=
  ∀ (s : State) (x : Side), hostReady s → TablesSound s → RequestsSettled s →
    let release := Instr.release [byteOf (Side.code x), 0]
    let l := s.requests.sides.get x
    (l.operator = .none → l.line ≠ .settle → AnswersOnly release s 0x30#8 .absent []) ∧
    (l.operator ≠ .none ∨ l.line = .settle →
      Answers release s [.requests, .protocol, .ports, .plan, .attention, .orders] 0x30#8 .done
        (fun t => operatorBytes t x) fun t =>
          let q := t.requests.sides.get x
          q.operator = .none ∧ q.line = (if l.line = .settle then .none else l.line) ∧
          (l.line = .settle → q.settleTimer = none) ∧
          q.echo =
            if q.effective.code < l.effective.code then
              let links := [Side.east, Side.west].filter fun y =>
                match (s.ports.get y).standing with
                | some n => s.geo.fromFarEnd x n && n.kind != .quiet
                | none => false
              if links = [] then none else some { links := links, expiry := s.now + 64 }
            else l.echo)

/-- The expiry of a settle timer ends the SETTLE, a fall of its side; the expiry of an echo hold counts its notices again;
each leads to a derivation (R73, R84, R85). An event that comes with its timer stopped, or before the moment the timer runs
to, changes nothing (log entries 8 and 3, the model's reading). -/
def Obligations.RequestTimersExpire : Prop :=
  ∀ (s : State) (x : Side), s.running = true → TablesSound s → RequestsSettled s →
    let l := s.requests.sides.get x
    ((¬timerDue s l.settleTimer → exec (.settleTimerExpiry x) s = .next s) ∧
     (timerDue s l.settleTimer →
       Effects (.settleTimerExpiry x) s [.requests, .protocol, .ports, .plan, .attention, .orders] fun t =>
         let q := t.requests.sides.get x
         q.line = .none ∧ q.operator = .none ∧ q.settleTimer = none ∧ q.echo = s.hearing.startEcho x ∧
         t.hearing.derivePass t.requests.sides = t.requests)) ∧
    ((¬timerDue s (l.echo.map (·.expiry)) → exec (.echoHoldExpiry x) s = .next s) ∧
     (timerDue s (l.echo.map (·.expiry)) →
       Effects (.echoHoldExpiry x) s [.requests, .protocol, .ports, .plan, .attention, .orders] fun t =>
         let q := t.requests.sides.get x
         (q = { l with echo := none } ∨ q.line ≠ l.line ∨ q.operator ≠ l.operator) ∧
         t.hearing.derivePass t.requests.sides = t.requests))

/-- Records are built from the local requests and the standing notices, and from nothing else (R82, R83): the reporters of a
span are exactly the local node with an effective request other than QUIET, and each other node of which a standing notice
other than QUIET names the span. Such a reporter's counted kind is the highest of its notices that no echo hold sets aside,
none when all are; its state is that of the notice that gives the kind, the more advanced of two that give the same or that
are both set aside. Reporters stand west end first; the record's kind is the highest counted, QUIET when there is none, and
its dark mark that of a DARK one. -/
def Obligations.RecordsHoldWhatIsHeard : Prop :=
  ∀ (h : Hearing) (sides : Pair LocalRequest), h.ring.sound →
    let r := h.ring
    let aside (link : Side) (n : Notice) := ∃ (x : Side) (hold : EchoHold), (sides.get x).echo = some hold ∧
      link ∈ hold.links ∧ n.origin = r.idAt (r.farEnd x) ∧ r.spanOf n = some (r.facing x)
    ∀ span < r.size, ∃ rec, (h.derivePass sides).records[span]? = some rec ∧
      (∀ p : Reporter, p ∈ rec.reporters ↔
        (∃ x : Side, r.facing x = span ∧ (sides.get x).effective ≠ .quiet ∧
          p = { id := r.selfId, kind := some (sides.get x).effective, state := none }) ∨
        (p.id ≠ r.selfId ∧
          let heard (link : Side) (n : Notice) := h.standing.get link = some n ∧ n.kind ≠ .quiet ∧ n.origin = p.id ∧
            r.spanOf n = some span
          let gives (k : Kind) (n : Notice) := ∃ link, heard link n ∧ ¬aside link n ∧ n.kind = k
          (∃ link n, heard link n) ∧
          (∀ k, p.kind = some k ↔
            (∃ n, gives k n) ∧ ∀ link n, heard link n → ¬aside link n → n.kind.code ≤ k.code) ∧
          ∃ st, p.state = some st ∧
            let stands (n : Notice) := match p.kind with
              | some k => gives k n
              | none => ∃ link, heard link n
            (∃ n, stands n ∧ n.state = st) ∧ ∀ n, stands n → n.state.code ≤ st.code)) ∧
      (rec.reporters.map (·.id)).Sublist [r.westId span, r.eastId span] ∧
      (∀ p ∈ rec.reporters, ∀ k, p.kind = some k → k.code ≤ rec.kind.code) ∧
      (rec.kind ≠ .quiet → ∃ p ∈ rec.reporters, p.kind = some rec.kind) ∧
      (rec.dark = true ↔ ∃ p ∈ rec.reporters, p.kind = some .dark)

/-- The served set by the first case of R86 that applies, the single span of its third case by R87; and the node role that
the derivation forms from its served set (R89). -/
def Obligations.ServedSetAndRole : Prop :=
  (∀ (h : Hearing) (sides : Pair LocalRequest), h.ring.sound →
      let r := h.ring
      let unit := h.derivePass sides
      let kind (span : Nat) : Kind := ((unit.records[span]?).map (·.kind)).getD .quiet
      let single (k : Kind) := k = .dim ∨ k = .ask ∨ k = .settle
      let segmenting (k : Kind) := k = .force ∨ k = .dark
      let beats (a b : Nat) := (kind b).code < (kind a).code ∨ (kind a = kind b ∧ (r.lowerId a < r.lowerId b ∨
        (r.lowerId a = r.lowerId b ∧ r.otherId a < r.otherId b)))
      unit.records.length = r.size ∧ unit.role = r.roleFor unit.served ∧
      (∀ e : ServedEntry, e ∈ unit.served ↔ e.span < r.size ∧ e.kind = kind e.span ∧
        (if ∃ i < r.size, kind i = .bar then e.kind = .bar
         else if ∃ i < r.size, segmenting (kind i) then segmenting e.kind
         else single e.kind ∧ ∀ i < r.size, single (kind i) → i ≠ e.span → beats e.span i)) ∧
      ∀ i < r.size, ((unit.records[i]?).map (·.served)) = some (unit.served.any fun e => e.span == i)) ∧
  (∀ (r : Ring) (served : List ServedEntry),
      let bar := ∃ e ∈ served, e.kind = .bar
      let holds (x : Side) := ∃ e ∈ served, e.span = r.facing x
      (r.roleFor served = .barred ↔ bar) ∧
      (∀ x : Side, (r.roleFor served).switchesOn x = true ↔ ¬bar ∧ holds x) ∧
      (r.roleFor served = .passing ↔ served ≠ [] ∧ ¬bar ∧ ¬holds .east ∧ ¬holds .west) ∧
      (r.roleFor served = .idle ↔ served = []))

/-! ### Switch Protocol Unit (chapter 6) -/

/-- A side of a settled part is IDLE exactly unless its span is served and no BAR is, and SWITCHED where it is served and the
node is a DARK reporter of the span or an answer notice stands (R93 to R95); when a side may come to be SWITCHED is
SwitchStaysUpToDate's. And each link carries the content that Table 26 gives for
the role (R103 to R105). -/
def Obligations.DecidedAndTransmittedByRole : Prop :=
  ∀ (s : State) (x : Side), s.running = true → SwitchSound s →
    let decided := (s.protocol.sides.get x).decided
    let served := (∃ e ∈ s.requests.served, e.span = s.geo.facing x) ∧ ∀ e ∈ s.requests.served, e.kind ≠ .bar
    let content := (s.ports.get x).transmit
    let kindOf (y : Side) : Kind := ((s.requests.reportOn (s.geo.facing y)).map (·.1)).getD .quiet
    let own (y : Side) (kind : Kind) (state : SideState) : Notice :=
      { ringTag := s.geo.ringTag, style := s.geo.style, kind := kind, state := state, origin := s.geo.selfId,
        target := s.geo.idAt (s.geo.farEnd y) }
    let quiet := own x .quiet .idle
    let about (y : Side) := own y (kindOf y) (s.protocol.sides.get y).realised
    let forwarded := ((s.ports.get x.opposite).standing).getD quiet
    (decided ≠ .idle ↔ served) ∧ (served → reportsDark s x ∨ answerNoticeStands s x → decided = .switched) ∧
    match s.requests.role with
    | .idle => content = some quiet
    | .passing => content = some forwarded
    | .switchingEast => content = some (about .east)
    | .switchingWest => content = some (about .west)
    | .switchingBoth => content = some (about x)
    | .barred =>
      (kindOf .east = .bar → kindOf .west = .bar → content = some (own x .bar .idle)) ∧
      (kindOf .east = .bar → kindOf .west ≠ .bar → content = some (own .east .bar .idle)) ∧
      (kindOf .east ≠ .bar → kindOf .west = .bar → content = some (own .west .bar .idle)) ∧
      (kindOf .east ≠ .bar → kindOf .west ≠ .bar → content = some forwarded)

/-- The expiry of a running answer timer: expired, NO-ANSWER with the west end id of the span, and nothing else (R101). An
event that comes with the timer not running, or before the moment it runs to, changes nothing (R102; log entries 8 and 3,
the model's reading). -/
def Obligations.AnswerTimerReports : Prop :=
  ∀ (s : State) (x : Side), s.running = true → SwitchSound s →
    let side := s.protocol.sides.get x
    (∀ expiry, side.answer = .running expiry → expiry ≤ s.now →
      Effects (.answerTimerExpiry x) s [.protocol, .attention] fun t =>
        t.protocol = { s.protocol with sides := s.protocol.sides.set x { side with answer := .expired } } ∧
        t.attention = s.attention.report .protocol .noAnswer (s.geo.idAt (s.geo.facing x))) ∧
    ((∀ expiry, side.answer = .running expiry → s.now < expiry) → exec (.answerTimerExpiry x) s = .next s)

/-! ### Plan Engine (chapters 1, 7 and 8) -/

/-- A trigger starts a sweep, restarts a running one while the count is below 4, or makes a follow-up due, reported once
(R133, R136, R137). -/
def Obligations.TriggerStartsOrRestarts : Prop :=
  ∀ s : State, triggered s s.trigger ∧ onlyChanges [.plan, .attention] s s.trigger

/-- The completion of a sweep: the plan of its snapshot committed, PLAN raised exactly when an action changes, the map
handed to the Fabric Port, the count back at 0, and the follow-up started when one is due (R111, R129, R138, R145). -/
def Obligations.SweepCompletionCommits : Prop :=
  ∀ (s : State) (sweep : Sweep), s.loader.load ≠ .noLoad → s.plan.sweep = some sweep →
    Effects .sweepCompletion s [.plan, .attention, .fabric] fun t =>
      let plan := s.geo.buildPlan sweep.snapshot s.table.circuits
      let changes := ∃ id, ((s.plan.committed.bind fun p => p.actionFor id).map Action.code) ≠
        (plan.actionFor id).map Action.code
      t.plan = { sweep := if s.plan.followUp then some { snapshot := t.snapshot, channel := 0 } else none,
                 restarts := 0, followUp := false, committed := some plan } ∧
      (changes → t.attention = { s.attention with causes := { s.attention.causes with plan := true } }) ∧
      (¬changes → t.attention = s.attention) ∧
      publishesIf (s.gateOpen = true)
        { s.fabric with committed := some { map := s.mapBuilt sweep.snapshot, pending := true } } t.fabric s.now

/-- The routes from one position to another: the eastward one covers exactly the spans the westward one leaves, and two
routes overlap exactly when some span is covered by both (R9, R10). -/
def Obligations.RoutesCoverTheRing : Prop :=
  ∀ (r : Ring), 3 ≤ r.size → ∀ pa pb, pa < r.size → pb < r.size → pa ≠ pb →
    let east := r.route pa pb .east
    let west := r.route pa pb .west
    (∀ span < r.size, r.covers east span = !r.covers west span) ∧ east.hops + west.hops = r.size ∧ 1 ≤ east.hops ∧
    (∀ span < r.size, r.covers east span = r.covers (r.route pb pa .west) span) ∧
    ∀ qa qb d e, qa < r.size → qb < r.size → qa ≠ qb →
      (r.overlap (r.route pa pb d) (r.route qa qb e) = true ↔
        ∃ span < r.size, r.covers (r.route pa pb d) span = true ∧ r.covers (r.route qa qb e) span = true)

/-- The switched spans of a plan, its islands and its view (R113 to R116). With k switched spans in ascending order the
islands are the k eastward arcs from the position after each to the next one, listed by west end; every position lies in
exactly one, which is its island, and the local island is that of position 0. With no switched span the whole ring is one
island. -/
def Obligations.IslandsPartitionTheRing : Prop :=
  ∀ (r : Ring) (snap : Snapshot) (circuits : List Circuit),
    r.sound → (∀ e ∈ snap.served, e.span < r.size) → snap.served.Pairwise (fun a b => a.span < b.span) →
    let plan := r.buildPlan snap circuits
    let barred := ∃ e ∈ snap.served, e.kind = .bar
    let k := plan.switched.length
    (barred → plan.switched = []) ∧ (¬barred → plan.switched = snap.served.map (·.span)) ∧
    (plan.switched = [] → plan.islands = [.whole]) ∧
    (plan.switched ≠ [] →
      plan.islands.length = k ∧
      (∀ i, i ∈ plan.islands ↔ ∃ j s, plan.switched[j]? = some s ∧
        ∃ s', plan.switched[(j + 1) % k]? = some s' ∧ i = .arc ((s + 1) % r.size) s') ∧
      plan.islands.Pairwise (fun a b => a.westEnd < b.westEnd)) ∧
    (∀ p < r.size, r.islandOf plan.islands p ∈ plan.islands ∧
      ∀ i ∈ plan.islands, r.holds i p = true ↔ i = r.islandOf plan.islands p) ∧
    plan.localIsland = r.islandOf plan.islands 0 ∧
    (plan.view = .full ↔ snap.served.length ≤ 1 ∧ ¬barred) ∧
    plan.served = snap.served ∧ plan.knownDark = snap.knownDark

/-- Cases 1 to 6 of Table 29, each where those before it do not apply (R118 to R122), and the last sentence of R122: only a
PROTECTED circuit with both ends in one island is RESTORED. -/
def Obligations.ActionsByClass : Prop :=
  ∀ (r : Ring) (snap : Snapshot) (c : Circuit),
    let route := r.circuitRoute c
    let island := r.islandOf (r.islands (switchedSpans snap.served))
    let bar := ∃ e ∈ snap.served, e.kind = .bar
    let dark := ∃ span ∈ snap.knownDark, r.covers route span = true
    let meetsSwitched := ∃ e ∈ snap.served, r.covers route e.span = true
    let outside := island route.source ≠ island 0 ∧ island route.destination ≠ island 0
    let action := r.actionOf snap c
    let carriedOrDown := (dark → action = .down) ∧ (¬dark → action = .carried)
    (bar → carriedOrDown) ∧
    (¬bar → c.cls = .extra → (snap.served ≠ [] → action = .preempted) ∧ (snap.served = [] → carriedOrDown)) ∧
    (¬bar → c.cls ≠ .extra → ¬meetsSwitched → action = .carried) ∧
    (¬bar → c.cls ≠ .extra → meetsSwitched → outside → action = .outside) ∧
    (¬bar → c.cls = .bare → meetsSwitched → ¬outside → carriedOrDown) ∧
    (¬bar → c.cls = .prot → meetsSwitched → ¬outside → island route.source ≠ island route.destination →
      action = .squelched .islands) ∧
    (∀ hops latency late, action = .restored hops latency late →
      c.cls = .prot ∧ island route.source = island route.destination)

/-- Case 7 of Table 29: the restored hop count H = h1 + (m − 1) + h2 and the restored latency, from the delays of the spans
the restored route crosses and its H − 1 intermediate nodes, saturated (R124, R125, R127, R128); RESTORED, late or not, or
SQUELCHED for LATE by the ceiling and the late policy (R122). H lies within 1..2N − 3, and with a single switched span it is
h + N − 2 (R117, R125). -/
def Obligations.RestoredRouteFigures : Prop :=
  ∀ (r : Ring) (snap : Snapshot) (c : Circuit) (west east : Nat),
    r.sound → c.sound r → (∀ e ∈ snap.served, e.span < r.size) →
    snap.served.Pairwise (fun a b => a.span < b.span) →
    (∀ e ∈ snap.served, e.kind ≠ .bar) → c.cls = .prot →
    let route := r.circuitRoute c
    let island := r.islandOf (r.islands (switchedSpans snap.served))
    (∃ e ∈ snap.served, r.covers route e.span = true) →
    island route.source = .arc west east → island route.destination = .arc west east → island 0 = .arc west east →
    let N := r.size
    let m := (east + N - west) % N + 1
    let index (p : Nat) := if c.direction = .east then (p + N - west) % N else (east + N - p) % N
    let position (i : Nat) := if c.direction = .east then (west + i) % N else (east + N - i) % N
    let spanAfter (i : Nat) := if c.direction = .east then position i else position (i + 1)
    let delays (first hops : Nat) := ((List.range hops).map fun i => snap.delays.getD (spanAfter (first + i)) 0).sum
    let pa := index route.source
    let pb := index route.destination
    let h1 := m - 1 - pa
    let h2 := pb
    let H := h1 + (m - 1) + h2
    let latency := min (delays pa h1 + delays 0 (m - 1) + delays 0 h2 + (H - 1) * snap.transit) 65535
    let action := r.actionOf snap c
    pb < pa ∧ pa < m ∧ 1 ≤ H ∧ H ≤ 2 * N - 3 ∧ (snap.served.length = 1 → H = route.hops + N - 2) ∧
    (c.ceiling = 0 ∨ latency ≤ c.ceiling → action = .restored H latency false) ∧
    (c.ceiling ≠ 0 → c.ceiling < latency → c.policy = .squelchIfLate → action = .squelched .late) ∧
    (c.ceiling ≠ 0 → c.ceiling < latency → c.policy = .restoreAnyway → action = .restored H latency true)

/-- On each span a protection channel serves the restored route of at most one circuit of a plan: on one channel at most one
record is restored (R126). -/
def Obligations.OneRestoredPerChannel : Prop :=
  ∀ (r : Ring) (snap : Snapshot) (circuits : List Circuit),
    r.sound → tableSound r circuits → (∀ e ∈ snap.served, e.span < r.size) →
    snap.served.Pairwise (fun a b => a.span < b.span) →
    ∀ c ∈ circuits, ∀ d ∈ circuits, c.channel = d.channel →
      (∃ hops latency late, r.actionOf snap c = .restored hops latency late) →
      (∃ hops latency late, r.actionOf snap d = .restored hops latency late) → c = d

/-! ### The selector map and the Fabric Port (chapter 8) -/

/-- The normal construction, which alone makes the map of an IDLE or BARRED node, and the PASS of every protection channel
at a PASSING node (R140, R141). -/
def Obligations.NormalMapByLocalRole : Prop :=
  ∀ (i : MapInput), i.ring.sound → tableSound i.ring i.circuits → i.role.switches = false →
    let r := i.ring
    let line (out : Side) (channel : Nat) : Option Source := ((i.build).lines.get out)[channel]?
    let passed (channel : Nat) := i.role = .passing ∧ 40 ≤ channel
    (∀ out : Side, (i.build.lines.get out).length = 80) ∧
    (∀ out channel, channel < 80 → passed channel → line out channel = some .pass) ∧
    (∀ c ∈ i.circuits, ¬passed c.channel → ¬(c.cls = .extra ∧ i.action c = .preempted) →
      (i.localRole c = .through → ∀ out : Side, line out c.channel = some .pass) ∧
      (i.localRole c = .head → line c.direction.leaving c.channel = some (.addCircuit c.id)) ∧
      (i.localRole c = .tail → line c.direction.arriving c.channel = some (.addCircuit c.id))) ∧
    (∀ out channel, channel < 80 → ¬passed channel →
      (∀ c ∈ i.circuits, c.channel = channel → r.covers (r.circuitRoute c) (r.facing out) = true →
        c.cls = .extra ∧ i.action c = .preempted) →
      line out channel = some .idle) ∧
    ∀ d : Drop, d ∈ i.build.drops ↔ ∃ c ∈ i.circuits,
      ∃ side, (i.localRole c = .head ∧ side = c.direction.leaving ∨ i.localRole c = .tail ∧ side = c.direction.arriving) ∧
        d = { circuit := c.id,
              source := if c.cls = .extra ∧ i.action c = .preempted then none else some (side, c.channel) }

/-- The whole map of a node switching on a side or both (R140, R142, R143). On the outgoing side Y opposite a side X that
switches with decided state BRIDGED or SWITCHED, Table 35 sets the protection partner and the working channel for the record
whose route covers span X. Every other protection channel is IDLE, on both sides, and so are all of them while D is IDLE;
every other working channel has its normal entry, as every channel of a CARRIED or DOWN record has; and the drop entries are
the normal ones but for those of Table 35. At an isolated node a THROUGH record that is SQUELCHED or OUTSIDE has SQUELCH on
both working channels and both protection partners. -/
def Obligations.SwitchingMapByTable35 : Prop :=
  ∀ (i : MapInput), i.ring.sound → tableSound i.ring i.circuits → i.role.switches = true →
    let r := i.ring
    let line (out : Side) (channel : Nat) : Option Source := ((i.build).lines.get out)[channel]?
    let ends (c : Circuit) := i.localRole c = .head ∨ i.localRole c = .tail
    let restored (c : Circuit) := ∃ hops latency late, i.action c = .restored hops latency late
    let squelched (c : Circuit) := ∃ why, i.action c = .squelched why
    let silenced (c : Circuit) := squelched c ∨ i.action c = .outside
    let turns (x : Side) := i.role.switchesOn x = true ∧ i.snapshot.decided.get x ≠ .idle
    let switched (x : Side) := i.snapshot.decided.get x = .switched
    let carries (x : Side) (k : Nat) (c : Circuit) :=
      c ∈ i.circuits ∧ c.channel = k ∧ r.covers (r.circuitRoute c) (r.facing x) = true
    let normal (out : Side) (k : Nat) :=
      (∀ c, carries out k c → line out k = some (if i.localRole c = .through then .pass else .addCircuit c.id)) ∧
      ((∀ c, ¬carries out k c) → line out k = some .idle)
    (∀ out : Side, (i.build.lines.get out).length = 80) ∧
    (∀ (y : Side) (k : Nat), k < 40 →
      let x := y.opposite
      let partner := r.style.partner k
      (turns x → ∀ c, carries x k c →
        (restored c → i.localRole c = .through →
          line y partner = some (.turn k) ∧ (switched x → line y k = some (.turn partner))) ∧
        (restored c → ends c → line y partner = some (.addCircuit c.id) ∧ line x k = some (.addCircuit c.id)) ∧
        (silenced c → i.localRole c = .through → line y partner = some .squelch ∧ line y k = some .squelch) ∧
        (squelched c → ends c → line y partner = some .squelch)) ∧
      (¬(turns x ∧ ∃ c, carries x k c ∧ (restored c ∨ silenced c)) → line y partner = some .idle) ∧
      (¬(turns x ∧ ∃ c, carries x k c ∧ i.localRole c = .through ∧ (silenced c ∨ restored c ∧ switched x)) →
        normal y k)) ∧
    (∀ d : Drop, d ∈ i.build.drops ↔ ∃ c ∈ i.circuits, ∃ side,
      (i.localRole c = .head ∧ side = c.direction.leaving ∨ i.localRole c = .tail ∧ side = c.direction.arriving) ∧
      d.circuit = c.id ∧
      (let changed := i.role.switchesOn side = true ∧ switched side ∧ c.channel < 40
       (c.cls = .extra ∧ i.action c = .preempted → d.source = none) ∧
       (changed → restored c → d.source = some (side.opposite, r.style.partner c.channel)) ∧
       (changed → squelched c → d.source = none) ∧
       (¬(c.cls = .extra ∧ i.action c = .preempted) → ¬(changed ∧ (restored c ∨ squelched c)) →
         d.source = some (side, c.channel)))) ∧
    (i.role = .switchingBoth → turns .east → turns .west →
      ∀ c ∈ i.circuits, c.channel < 40 → i.localRole c = .through → silenced c → ∀ out : Side,
        line out c.channel = some .squelch ∧ line out (r.style.partner c.channel) = some .squelch)

/-- FREEZE and the FREEZE pin: the flag or the pin takes its value, the gate is formed again, and its opening publishes the
waiting map (R144, R145, R148, R160). Bits of the answer's flags byte with no meaning are 0 (log entry 33, the model's
choice). -/
def Obligations.FreezeFormsTheGate : Prop :=
  ∀ s : State,
    (∀ (flag : Bool) (c : Instr),
      c = (if flag then .freezeSet [1] else .freezeClear [0]) → hostReady s →
      Answers c s [.fabric] 0x42#8 .done
        (fun _ => [byteOf ((if s.pins.freeze then 4 else 0) + (if flag then 2 else 0)
          + if s.loader.armed = true ∧ s.pins.freeze = false ∧ flag = false then 1 else 0)])
        fun t =>
          publishesIf (s.gateOpen = false ∧ s.loader.armed = true ∧ s.pins.freeze = false ∧ flag = false)
            { s.fabric with freezeFlag := flag } t.fabric s.now) ∧
    ∀ asserted : Bool,
      Effects (.freezePinChange asserted) s [.pins, .fabric] fun t =>
        t.pins = { s.pins with freeze := asserted } ∧
        publishesIf (s.gateOpen = false ∧ s.loader.armed = true ∧ asserted = false ∧ s.fabric.freezeFlag = false)
          s.fabric t.fabric s.now

/-- A DONE with the generation in flight ends the publication, realises the snapshot states of its map together, starts the
answer timer of a bridge that has become visible, and lets the next publication start; any other DONE is disregarded (R98,
R101, R146). A completion that leaves the realised states as they were may start the timer too, by R101 against R98 (log
entry 32, the model's choice). -/
def Obligations.DoneEndsThePublication : Prop :=
  ∀ (s : State) (g : BitVec 16), s.running = true → SwitchSound s →
    ((∀ flight, s.fabric.inFlight = some flight → flight.map.generation ≠ some g.toNat) →
      exec (.fabDone g) s = .next s) ∧
    ∀ flight, s.fabric.inFlight = some flight → flight.map.generation = some g.toNat →
      Effects (.fabDone g) s [.fabric, .protocol, .ports] fun t =>
        (∀ x : Side,
          let old := s.protocol.sides.get x
          let new := t.protocol.sides.get x
          new.realised = flight.map.decided.get x ∧ new.decided = old.decided ∧
          new.answer =
            if new.decided = .bridged ∧ new.realised = .bridged ∧ old.answer = .stopped then .running (s.now + 400)
            else old.answer) ∧
        publishesIf (s.gateOpen = true) { s.fabric with inFlight := none } t.fabric s.now

/-- The fabric timer's expiry: TIMEOUT with the generation in flight; with the gate open and a map waiting, the waiting
map's publication; otherwise the same map presented again under the same generation (R147). An event that comes with no
publication in flight, or before its 10 ms have passed, changes nothing (log entries 8 and 3, the model's reading). -/
def Obligations.FabricTimeoutPresentsAgain : Prop :=
  ∀ s : State, s.loader.load ≠ .noLoad →
    ((∀ flight, s.fabric.inFlight = some flight → s.now < flight.expiry) → exec .fabricTimeout s = .next s) ∧
    ∀ flight generation, s.fabric.inFlight = some flight → flight.expiry ≤ s.now →
      flight.map.generation = some generation →
      Effects .fabricTimeout s [.fabric, .attention] fun t =>
        t.attention = s.attention.report .fabric .timeout generation ∧
        (s.gateOpen = true ∧ s.fabric.mapPending = true →
          publicationStarted { s.fabric with inFlight := none } t.fabric s.now) ∧
        (¬(s.gateOpen = true ∧ s.fabric.mapPending = true) →
          t.fabric = { s.fabric with
            inFlight := some { map := flight.map, expiry := s.now + 80 }
            presented := some flight.map
            presentations := s.fabric.presentations + 1 })

/-! ### Management port (chapter 9) -/

/-- The bytes on the lines: an answer frame is the code echoed, the answer code by Table 42, the body's length, the body and
the CRC-8 of all before it, and the NOT-READY filler is 00h, 0Bh, 00h and its CRC-8 (R163, R165); a presentation is the
generation, two bytes for each line entry, side E before side W, the drop entry count and four bytes for each drop entry, a
built map's in ascending order of circuit id (R170). -/
def Obligations.LineBytesByLayout : Prop :=
  (∀ a : Answer, a.body.length ≤ 100 →
      let frame := a.frame
      let code : Byte := match a.code with
        | .done => 0x00#8 | .busy => 0x01#8 | .locked => 0x02#8 | .absent => 0x03#8 | .taken => 0x04#8 | .clash => 0x05#8
        | .full => 0x06#8 | .invalid => 0x07#8 | .outranked => 0x08#8 | .unknown => 0x09#8 | .corrupt => 0x0A#8
        | .notReady => 0x0B#8
      frame.length = a.body.length + 4 ∧ frame[0]? = some a.request ∧ frame[1]? = some code ∧
      (frame.getD 2 0).toNat = a.body.length ∧ (frame.drop 3).take a.body.length = a.body ∧
      frame[a.body.length + 3]? = some (crc8 (frame.take (a.body.length + 3)))) ∧
  Answer.filler.frame = [0x00#8, 0x0B#8, 0x00#8, crc8 [0x00#8, 0x0B#8, 0x00#8]] ∧
  (∀ (m : SelectorMap) (generation : Nat),
      (∀ out : Side, (m.lines.get out).length = 80) → m.drops.length ≤ 160 → m.generation = some generation →
      generation ≤ 65535 →
      let bytes := m.bytes
      let word (at' : Nat) : Nat := wordOf (bytes.getD at' 0) (bytes.getD (at' + 1) 0)
      bytes.length = 323 + 4 * m.drops.length ∧ word 0 = generation ∧
      (bytes.getD 322 0).toNat = m.drops.length ∧
      (∀ (out : Side) (channel : Nat) (source : Source), (m.lines.get out)[channel]? = some source →
        let entry := word (2 + 2 * (channel + if out = .west then 80 else 0))
        match source with
        | .idle => entry = 0
        | .pass => entry = 1 * 4096
        | .addCircuit c => c ≤ 4095 → entry = 2 * 4096 + c
        | .turn q => q < 80 → entry = 3 * 4096 + q
        | .squelch => entry = 4 * 4096) ∧
      ∀ (j : Nat) (d : Drop), m.drops[j]? = some d → d.circuit ≤ 4095 →
        word (323 + 4 * j) = d.circuit ∧
        bytes.getD (325 + 4 * j) 0 = (match d.source with
          | some (.east, _) => 0x00#8 | some (.west, _) => 0x01#8 | none => 0xFF#8) ∧
        bytes.getD (326 + 4 * j) 0 = byteOf ((d.source.map (·.2)).getD 0)) ∧
  ∀ i : MapInput, i.build.drops.Pairwise fun d e => d.circuit ≤ e.circuit

/-- STATUS answers in every load state with the 28 + 3k bytes of its layout, and changes nothing (R157, R168). The seconds
left of a settle timer are formed from the model's clock, rounded down, and they are 0 for one that does not run, as are
bits of the layout with no meaning (log entries 3 and 33, the model's choices). -/
def Obligations.StatusAnswersLayout : Prop :=
  ∀ s : State, portReady s →
    let flag (b : Bool) (weight : Nat) := if b then weight else 0
    let seconds (timer : Timer) := (timer.map fun expiry => (expiry - s.now) / 8000).getD 0
    let side (x : Side) : List Byte :=
      let m := s.monitors.get x
      let l := s.requests.sides.get x
      let settleTimer := if l.settleTimer ≠ none then 1 else if l.line = .settle then 2 else 0
      [byteOf (m.raw.code * 64 + m.declared.code * 16 + settleTimer * 4 + flag l.echo.isSome 2),
        byteOf (l.line.code * 64 + l.operator.code * 16), byteOf l.effective.code] ++ wordBytes (seconds l.settleTimer)
    let link (x : Side) : List Byte :=
      let p := s.ports.get x
      byteOf (flag (p.link == .up) 128 + flag p.standing.isSome 64) :: match p.standing with
        | some n => [byteOf (n.ringTag * 16 + n.style.code * 8 + n.kind.code), byteOf (n.state.code * 64 + n.origin),
            byteOf n.target]
        | none => [0, 0, 0]
    let role : Nat := match s.requests.role with
      | .idle => 0 | .passing => 64 | .barred => 128
      | .switchingEast => 192 + 32 | .switchingWest => 192 + 16 | .switchingBoth => 192 + 32 + 16
    let view : Nat := match s.plan.committed with
      | none => 0
      | some p => if p.view = .full then 4 else 8
    let states (x : Side) := (s.protocol.sides.get x).decided.code * 4 + (s.protocol.sides.get x).realised.code
    let c := s.attention.causes
    let served := s.geo.reportOrder s.requests.served
    let body : List Byte :=
      [byteOf s.loader.load.code, byteOf ((s.attention.records.load.map fun f => f.kind.code).getD 0),
        byteOf (flag s.loader.armed 128 + flag s.pins.freeze 64 + flag s.fabric.freezeFlag 32 + flag s.gateOpen 16
          + flag s.plan.sweep.isSome 8 + flag s.fabric.inFlight.isSome 4 + flag s.attention.moreFaults 2),
        byteOf s.plan.restarts] ++ wordBytes s.fabric.generation
        ++ [byteOf (role + view), byteOf (states .east * 16 + states .west),
            byteOf (flag c.plan 64 + flag c.linkE 32 + flag c.linkW 16 + flag c.protocol 8 + flag c.fabric 4
              + flag c.mgmt 2 + flag c.load 1)]
        ++ side .east ++ side .west ++ link .east ++ link .west ++ [byteOf served.length]
        ++ served.flatMap fun e => [byteOf (s.geo.westId e.span), byteOf (s.geo.eastId e.span), byteOf e.kind.code]
    AnswersOnly (.status []) s 0x01#8 .done body ∧ body.length = 28 + 3 * s.requests.served.length

/-- While the load state is not LOADED, every request but STATUS, RESTART, FAULT-READ, FAULT-CLEAR and a SETTINGS-WRITE that
gives the attention masks alone is answered LOCKED and changes nothing (R156). While a sweep runs, every edit of the right
shape is answered BUSY and changes nothing (R12, R25, R159). The model's reading: the LOCKED test of a SETTINGS-WRITE goes
by its first byte, whatever its shape, an empty body naming nothing (log entry 25), and bits 7..6 of the given marks are
disregarded (log entry 24). -/
def Obligations.LockedAndBusy : Prop :=
  (∀ (s : State) (body : List Byte), portReady s → s.loader.load ≠ .loaded → body.length ≤ 40 →
      (∀ p ∈ [(Instr.add body, 0x10#8), (.edit body, 0x11#8), (.retire body, 0x12#8), (.read body, 0x13#8),
          (.channelRead body, 0x14#8), (.walkStart body, 0x15#8), (.walkContinue body, 0x15#8), (.spanRead body, 0x20#8),
          (.spanDelay body, 0x21#8), (.operatorBar body, 0x30#8), (.operatorForce body, 0x30#8),
          (.operatorAsk body, 0x30#8), (.release body, 0x30#8), (.settingsRead body, 0x40#8), (.freezeSet body, 0x42#8),
          (.freezeClear body, 0x42#8), (.arm body, 0x50#8)],
        AnswersOnly p.1 s p.2 .locked []) ∧
      ((body.headD 0).toNat % 64 ≠ 1 → AnswersOnly (.settingsWrite body) s 0x41#8 .locked []) ∧
      ∀ hold soak s1 s0 dim transit masks : Byte, s.sweeping = false →
        Answers (.settingsWrite [1, hold, soak, s1, s0, dim, transit, masks]) s [.ring, .attention] 0x41#8 .done
          (fun t => t.settingsBytes ++ [0, 0]) fun t =>
            t.ring = s.ring ∧ t.attention = { s.attention with masks := Causes.ofByte masks }) ∧
  (∀ (s : State) (body : List Byte), hostReady s → s.sweeping = true → body.length ≤ 40 →
      (body.length = 9 + (body.getD 8 0).toNat → AnswersOnly (.add body) s 0x10#8 .busy []) ∧
      (body.length = 7 + (body.getD 6 0).toNat → AnswersOnly (.edit body) s 0x11#8 .busy []) ∧
      (body.length = 2 → AnswersOnly (.retire body) s 0x12#8 .busy []) ∧
      (body.length = 3 → AnswersOnly (.spanDelay body) s 0x21#8 .busy []) ∧
      (body.length = 8 → AnswersOnly (.settingsWrite body) s 0x41#8 .busy []))

/-- A body that does not have the shape of its request is answered INVALID, detail LENGTH (R156, R166, R167); an undefined
side or action of OPERATOR and an undefined action of FREEZE INVALID, detail VALUE (R76, R160). None changes anything. -/
def Obligations.MalformedBodiesAreInvalid : Prop :=
  (∀ (s : State) (body : List Byte), hostReady s → body.length ≤ 40 →
      let invalid (c : Instr) (code : Byte) := AnswersOnly c s code .invalid [7]
      (body.length < 9 ∨ body.length ≠ 9 + (body.getD 8 0).toNat → invalid (.add body) 0x10#8) ∧
      (body.length < 7 ∨ body.length ≠ 7 + (body.getD 6 0).toNat → invalid (.edit body) 0x11#8) ∧
      (body.length ≠ 2 → invalid (.retire body) 0x12#8 ∧ invalid (.read body) 0x13#8 ∧ invalid (.channelRead body) 0x14#8 ∧
        invalid (.operatorBar body) 0x30#8 ∧ invalid (.operatorForce body) 0x30#8 ∧ invalid (.operatorAsk body) 0x30#8 ∧
        invalid (.release body) 0x30#8) ∧
      (body.length ≠ 3 → invalid (.walkStart body) 0x15#8 ∧ invalid (.walkContinue body) 0x15#8 ∧
        invalid (.spanDelay body) 0x21#8) ∧
      (body.length ≠ 1 → invalid (.spanRead body) 0x20#8 ∧ invalid (.freezeSet body) 0x42#8 ∧
        invalid (.freezeClear body) 0x42#8 ∧ invalid (.faultRead body) 0x60#8 ∧ invalid (.faultClear body) 0x61#8) ∧
      (body.length ≠ 8 → invalid (.settingsWrite body) 0x41#8) ∧
      (body ≠ [] → invalid (.status body) 0x01#8 ∧ invalid (.settingsRead body) 0x40#8 ∧ invalid (.arm body) 0x50#8 ∧
        invalid (.restart body) 0x51#8)) ∧
  (∀ (s : State) (side action : Byte), hostReady s →
      (1 < side.toNat ∨ 3 < action.toNat → ∀ c ∈ [Instr.operatorBar [side, action], .operatorForce [side, action],
          .operatorAsk [side, action], .release [side, action]],
        AnswersOnly c s 0x30#8 .invalid [8]) ∧
      (1 < action.toNat → ∀ c ∈ [Instr.freezeSet [action], .freezeClear [action]], AnswersOnly c s 0x42#8 .invalid [8]))

/-- A bad request frame is discarded, reported BAD-FRAME with no detail and answered CORRUPT with the code echoed as 00h
(R155); a good frame with an undefined code is reported UNKNOWN-REQUEST with the code and answered UNKNOWN (R156). Both are
reported in every load state, by R155 and R156 against section 10.1 (log entry 35, the model's choice). -/
def Obligations.BadFrameAndUnknownCode : Prop :=
  ∀ s : State, portReady s →
    (∀ (code : Byte) (rest : List Byte) (bits : Nat), code ≠ 0xFF#8 → bits < 8 →
      (let length := (rest.headD 0).toNat
       rest = [] ∨ 40 < length ∨ rest.length < length + 2 ∨ bits ≠ 0 ∨ (∃ b ∈ rest.drop (length + 2), b ≠ 0xFF#8) ∨
         rest.getD (length + 1) 0 ≠ crc8 (code :: rest.take (length + 1))) →
      Answers (.badFrame (code :: rest) bits) s [.attention] 0x00#8 .corrupt (fun _ => []) fun t =>
        t.attention = s.attention.report .mgmt .badFrame 0) ∧
    ∀ (code : Byte) (body : List Byte),
      code.toNat ∉ [0x01, 0x10, 0x11, 0x12, 0x13, 0x14, 0x15, 0x20, 0x21, 0x30, 0x40, 0x41, 0x42, 0x50, 0x51, 0x60, 0x61] →
      code ≠ 0xFF#8 → body.length ≤ 40 →
      Answers (.unknownRequest code body) s [.attention] code .unknown (fun _ => []) fun t =>
        t.attention = s.attention.report .mgmt .unknownRequest code.toNat

/-- A not-ready window carries the filler and leaves the slots and RDY as they are; a request in it is lost and reported
OVERRUN with its first byte, an empty one reports nothing (R154). An empty window takes no request: while RDY is high MDO
carries the answer slot, which is unchanged (R152). The model's choices: the command OVERRUN is a not-ready window whatever
RDY is, as its row says (log entry 6), and OVERRUN is reported in every load state (log entry 35). -/
def Obligations.WindowsWithoutRequest : Prop :=
  (∀ (s : State) (mdi : List Byte), s.loader.load ≠ .noLoad →
      Effects (.overrun mdi) s [.mgmt, .attention] fun t =>
        t.mgmt = { s.mgmt with mdo := some { request := 0x00#8, code := .notReady, body := [] } } ∧
        (∀ first rest, mdi = first :: rest → first ≠ 0xFF#8 →
          t.attention = s.attention.report .mgmt .overrun first.toNat) ∧
        (mdi = [] ∨ (∃ rest, mdi = 0xFF#8 :: rest) → t.attention = s.attention)) ∧
  (∀ s : State, s.loader.load ≠ .noLoad →
      Effects .emptyWindow s [.mgmt] fun t =>
        t.mgmt = { s.mgmt with
          mdo := if s.mgmt.rdy then s.mgmt.answerSlot else some { request := 0x00#8, code := .notReady, body := [] } })

/-! ### Attention Unit (chapter 10) -/

/-- A fault report fills a clear record and raises its cause, or sets more-faults and leaves the record (R172); and ATTN is
asserted exactly while a raised cause has its mask enabled (R174). -/
def Obligations.FaultReportsDriveAttn : Prop :=
  (∀ (a : Attention) (g : FaultGroup) (kind : FaultKind) (detail : Nat),
      let b := a.report g kind detail
      (a.records.ofGroup g = none →
        b.records.ofGroup g = some { kind := kind, detail := detail } ∧ b.causes.ofGroup g = true ∧
        b.moreFaults = a.moreFaults) ∧
      (a.records.ofGroup g ≠ none → b.records = a.records ∧ b.causes = a.causes ∧ b.moreFaults = true) ∧
      b.masks = a.masks ∧ b.causes.plan = a.causes.plan ∧
      ∀ h : FaultGroup, h ≠ g →
        b.records.ofGroup h = a.records.ofGroup h ∧ b.causes.ofGroup h = a.causes.ofGroup h) ∧
  (∀ s : State, s.attn = true ↔
      (s.attention.causes.plan = true ∧ s.attention.masks.plan = true) ∨
      ∃ g : FaultGroup, s.attention.causes.ofGroup g = true ∧ s.attention.masks.ofGroup g = true)

/-- FAULT-READ answers in every load state with the record of a group and more-faults, and changes nothing; a value above 5
is INVALID (R175); the detail of a clear record is sent as 0 (log entry 34, the model's choice), and so are flag bits with
no meaning (log entry 33, the model's choice). FAULT-CLEAR of a group, of PLAN and of ALL is answered with the flags as they
stand after it; a value above 7 is INVALID (R176). -/
def Obligations.FaultReadAndClear : Prop :=
  (∀ (s : State) (group : Byte), portReady s →
      (5 < group.toNat → AnswersOnly (.faultRead [group]) s 0x60#8 .invalid [8]) ∧
      ∀ g, [FaultGroup.linkE, .linkW, .protocol, .fabric, .mgmt, .load][group.toNat]? = some g →
        AnswersOnly (.faultRead [group]) s 0x60#8 .done
          ([group] ++ (match s.attention.records.ofGroup g with
            | some f => byteOf f.kind.code :: wordBytes f.detail
            | none => [0, 0, 0]) ++ [if s.attention.moreFaults then 1 else 0])) ∧
  (∀ (s : State) (what : Byte), portReady s →
      (7 < what.toNat → AnswersOnly (.faultClear [what]) s 0x61#8 .invalid [8]) ∧
      (what.toNat ≤ 7 →
        Answers (.faultClear [what]) s [.attention] 0x61#8 .done
          (fun t => [byteOf t.attention.causes.toNat, if t.attention.moreFaults then 1 else 0]) fun t =>
            let a := s.attention
            let b := t.attention
            b.masks = a.masks ∧
            (∀ g, [FaultGroup.linkE, .linkW, .protocol, .fabric, .mgmt, .load][what.toNat]? = some g →
              b.records.ofGroup g = none ∧ b.causes.ofGroup g = false ∧ b.causes.plan = a.causes.plan ∧
              b.moreFaults = a.moreFaults ∧
              ∀ h : FaultGroup, h ≠ g →
                b.records.ofGroup h = a.records.ofGroup h ∧ b.causes.ofGroup h = a.causes.ofGroup h) ∧
            (what.toNat = 6 → b = { a with causes := { a.causes with plan := false } }) ∧
            (what.toNat = 7 → (∀ g : FaultGroup, b.records.ofGroup g = none ∧ b.causes.ofGroup g = false) ∧
              b.causes.plan = false ∧ b.moreFaults = false)))

/-! ### What every step keeps -/

/-- A link is UP exactly while it has a standing notice and its timer runs: every step keeps this (R60 to R64). -/
def Obligations.LinksStaySound : Prop := ∀ s t : State, LinksSound s → step s = .next t → LinksSound t

/-- Each raw level is what its inputs give, and the timers of a monitor run exactly when Table 14 says: every step keeps
this (R42 to R48). -/
def Obligations.MonitorsStaySound : Prop := ∀ s t : State, MonitorsSound s → step s = .next t → MonitorsSound t

/-- The ring is held exactly while LOADED, within its ranges; ids are unique, chains ordered, channels agree with classes,
and no two routes of a channel overlap: every step keeps this (R1, R3, R11, R16 to R19, R22 to R25, R35, R41). -/
def Obligations.TablesStaySound : Prop := ∀ s t : State, TablesSound s → step s = .next t → TablesSound t

/-- The records, the served set and the role are what the inputs give, and no preempted SETTLE or ASK stands: every step
keeps this (R73, R74, R80, R83, R85, R86, R89). And the line parts go on following the declared levels (R71, R72). -/
def Obligations.RequestsStaySettled : Prop :=
  ∀ s t : State, TablesSound s → RequestsSettled s → step s = .next t →
    RequestsSettled t ∧ (LinesFollowLevels s → LinesFollowLevels t)

/-- The Switch Protocol Unit's copies, decided states and transmit choices are up to date, and each port carries its choice:
every step keeps this, whatever order the free choices take (R92 to R96, R101, R106). And the handshake of Table 25: a side
comes to be SWITCHED in a step only with a cause, the node a DARK reporter of its span after the step, or an answer notice
standing before or after it; a side whose span comes to be served with neither is BRIDGED (R93, R94). -/
def Obligations.SwitchStaysUpToDate : Prop :=
  ∀ s t : State, TablesSound s → SwitchSound s → step s = .next t →
    SwitchSound t ∧
    (RequestsSettled s → LinesFollowLevels s → ∀ x : Side,
      let before := (s.protocol.sides.get x).decided
      let after := (t.protocol.sides.get x).decided
      let cause := reportsDark t x ∨ answerNoticeStands s x ∨ answerNoticeStands t x
      (before ≠ .switched → after = .switched → cause) ∧
      (before = .idle → after ≠ .idle → ¬cause → after = .bridged))

/-- Restart count, follow-up, snapshot, generation, publication in flight and waiting map hold together: every step keeps
this (R134, R136, R137, R144, R145). And what the Plan Engine is handed reaches it: after a step of a LOADED part, no
RESTART, in which the served set, the known-dark set or a decided state has changed, a sweep runs (R88, R97, R133), with the
new values in its snapshot or a follow-up due. -/
def Obligations.EngineStaysSound : Prop :=
  ∀ s t : State, BlocksHeld s → EngineSound s → step s = .next t →
    EngineSound t ∧
    (s.loader.load = .loaded → t.loader.load = .loaded → (∀ c rest, s.pending = c :: rest → ¬carriesRestart c) →
      (t.requests.served ≠ s.requests.served ∨ knownDark t.requests.records ≠ knownDark s.requests.records ∨
        ∃ x : Side, (t.protocol.sides.get x).decided ≠ (s.protocol.sides.get x).decided) →
      ∃ sweep, t.plan.sweep = some sweep ∧ (t.plan.followUp = true ∨ sweep.snapshot = t.snapshot))

/-- A cause flag is raised exactly while its record is occupied (R171), the armed flag is set only while LOADED (R181, R182,
R185), the settings lie in their ranges (R50, R75), and the Identity Loader's buffer, byte timer and bus fit its load state
(R178, R179, R185): every step keeps each, and it keeps the blocks held until LOADED at their held values before it (R44,
R55, R66, R91, R110, R131, R150). It keeps too that during a reset RDY is low and both slots are empty (R153,
R185), and that out of it RDY is high and the request slot free, which holds because a request is one whole command (log
entry 6, the model's choice, as log entry 17 is for the byte timer and the bus). -/
def Obligations.FlagsStaySound : Prop :=
  ∀ s t : State, step s = .next t →
    (CausesMatchRecords s → CausesMatchRecords t) ∧ (ArmedOnlyLoaded s → ArmedOnlyLoaded t) ∧
    (PortSound s → PortSound t) ∧ (SettingsInRange s → SettingsInRange t) ∧ (LoaderSound s → LoaderSound t) ∧
    (BlocksHeld s → BlocksHeld t)

/-- Every invariant holds of the part right after reset. -/
def Obligations.ResetIsSound : Prop :=
  CausesMatchRecords State.reset ∧ LinksSound State.reset ∧ MonitorsSound State.reset ∧ TablesSound State.reset ∧
  RequestsSettled State.reset ∧ SwitchSound State.reset ∧ EngineSound State.reset ∧ ArmedOnlyLoaded State.reset ∧
  PortSound State.reset ∧ SettingsInRange State.reset ∧ LoaderSound State.reset ∧ BlocksHeld State.reset ∧
  LinesFollowLevels State.reset
end

