-- ==== Sys2Proof/Laws/State.lean ====
section
/-!
SUPPORT. The small lemmas of the state's updates: one for each field and each update, each true by unfolding, so that
no proof unfolds a record update; and the same for what is held once for each side.
-/

namespace Sys2Proof.Machine

@[simp] theorem State.setPins_pins (s : State) (x : Pins) : (s.setPins x).pins = x := rfl
@[simp] theorem State.setPins_loader (s : State) (x : Pins) : (s.setPins x).loader = s.loader := rfl
@[simp] theorem State.setPins_ring (s : State) (x : Pins) : (s.setPins x).ring = s.ring := rfl
@[simp] theorem State.setPins_settings (s : State) (x : Pins) : (s.setPins x).settings = s.settings := rfl
@[simp] theorem State.setPins_table (s : State) (x : Pins) : (s.setPins x).table = s.table := rfl
@[simp] theorem State.setPins_monitors (s : State) (x : Pins) : (s.setPins x).monitors = s.monitors := rfl
@[simp] theorem State.setPins_ports (s : State) (x : Pins) : (s.setPins x).ports = s.ports := rfl
@[simp] theorem State.setPins_requests (s : State) (x : Pins) : (s.setPins x).requests = s.requests := rfl
@[simp] theorem State.setPins_protocol (s : State) (x : Pins) : (s.setPins x).protocol = s.protocol := rfl
@[simp] theorem State.setPins_plan (s : State) (x : Pins) : (s.setPins x).plan = s.plan := rfl
@[simp] theorem State.setPins_fabric (s : State) (x : Pins) : (s.setPins x).fabric = s.fabric := rfl
@[simp] theorem State.setPins_mgmt (s : State) (x : Pins) : (s.setPins x).mgmt = s.mgmt := rfl
@[simp] theorem State.setPins_attention (s : State) (x : Pins) : (s.setPins x).attention = s.attention := rfl
@[simp] theorem State.setPins_now (s : State) (x : Pins) : (s.setPins x).now = s.now := rfl
@[simp] theorem State.setPins_orders (s : State) (x : Pins) : (s.setPins x).orders = s.orders := rfl
@[simp] theorem State.setPins_pending (s : State) (x : Pins) : (s.setPins x).pending = s.pending := rfl

@[simp] theorem State.setLoader_pins (s : State) (x : Loader) : (s.setLoader x).pins = s.pins := rfl
@[simp] theorem State.setLoader_loader (s : State) (x : Loader) : (s.setLoader x).loader = x := rfl
@[simp] theorem State.setLoader_ring (s : State) (x : Loader) : (s.setLoader x).ring = s.ring := rfl
@[simp] theorem State.setLoader_settings (s : State) (x : Loader) : (s.setLoader x).settings = s.settings := rfl
@[simp] theorem State.setLoader_table (s : State) (x : Loader) : (s.setLoader x).table = s.table := rfl
@[simp] theorem State.setLoader_monitors (s : State) (x : Loader) : (s.setLoader x).monitors = s.monitors := rfl
@[simp] theorem State.setLoader_ports (s : State) (x : Loader) : (s.setLoader x).ports = s.ports := rfl
@[simp] theorem State.setLoader_requests (s : State) (x : Loader) : (s.setLoader x).requests = s.requests := rfl
@[simp] theorem State.setLoader_protocol (s : State) (x : Loader) : (s.setLoader x).protocol = s.protocol := rfl
@[simp] theorem State.setLoader_plan (s : State) (x : Loader) : (s.setLoader x).plan = s.plan := rfl
@[simp] theorem State.setLoader_fabric (s : State) (x : Loader) : (s.setLoader x).fabric = s.fabric := rfl
@[simp] theorem State.setLoader_mgmt (s : State) (x : Loader) : (s.setLoader x).mgmt = s.mgmt := rfl
@[simp] theorem State.setLoader_attention (s : State) (x : Loader) : (s.setLoader x).attention = s.attention := rfl
@[simp] theorem State.setLoader_now (s : State) (x : Loader) : (s.setLoader x).now = s.now := rfl
@[simp] theorem State.setLoader_orders (s : State) (x : Loader) : (s.setLoader x).orders = s.orders := rfl
@[simp] theorem State.setLoader_pending (s : State) (x : Loader) : (s.setLoader x).pending = s.pending := rfl

@[simp] theorem State.setRing_pins (s : State) (x : Option Ring) : (s.setRing x).pins = s.pins := rfl
@[simp] theorem State.setRing_loader (s : State) (x : Option Ring) : (s.setRing x).loader = s.loader := rfl
@[simp] theorem State.setRing_ring (s : State) (x : Option Ring) : (s.setRing x).ring = x := rfl
@[simp] theorem State.setRing_settings (s : State) (x : Option Ring) : (s.setRing x).settings = s.settings := rfl
@[simp] theorem State.setRing_table (s : State) (x : Option Ring) : (s.setRing x).table = s.table := rfl
@[simp] theorem State.setRing_monitors (s : State) (x : Option Ring) : (s.setRing x).monitors = s.monitors := rfl
@[simp] theorem State.setRing_ports (s : State) (x : Option Ring) : (s.setRing x).ports = s.ports := rfl
@[simp] theorem State.setRing_requests (s : State) (x : Option Ring) : (s.setRing x).requests = s.requests := rfl
@[simp] theorem State.setRing_protocol (s : State) (x : Option Ring) : (s.setRing x).protocol = s.protocol := rfl
@[simp] theorem State.setRing_plan (s : State) (x : Option Ring) : (s.setRing x).plan = s.plan := rfl
@[simp] theorem State.setRing_fabric (s : State) (x : Option Ring) : (s.setRing x).fabric = s.fabric := rfl
@[simp] theorem State.setRing_mgmt (s : State) (x : Option Ring) : (s.setRing x).mgmt = s.mgmt := rfl
@[simp] theorem State.setRing_attention (s : State) (x : Option Ring) : (s.setRing x).attention = s.attention := rfl
@[simp] theorem State.setRing_now (s : State) (x : Option Ring) : (s.setRing x).now = s.now := rfl
@[simp] theorem State.setRing_orders (s : State) (x : Option Ring) : (s.setRing x).orders = s.orders := rfl
@[simp] theorem State.setRing_pending (s : State) (x : Option Ring) : (s.setRing x).pending = s.pending := rfl

@[simp] theorem State.setSettings_pins (s : State) (x : Settings) : (s.setSettings x).pins = s.pins := rfl
@[simp] theorem State.setSettings_loader (s : State) (x : Settings) : (s.setSettings x).loader = s.loader := rfl
@[simp] theorem State.setSettings_ring (s : State) (x : Settings) : (s.setSettings x).ring = s.ring := rfl
@[simp] theorem State.setSettings_settings (s : State) (x : Settings) : (s.setSettings x).settings = x := rfl
@[simp] theorem State.setSettings_table (s : State) (x : Settings) : (s.setSettings x).table = s.table := rfl
@[simp] theorem State.setSettings_monitors (s : State) (x : Settings) : (s.setSettings x).monitors = s.monitors := rfl
@[simp] theorem State.setSettings_ports (s : State) (x : Settings) : (s.setSettings x).ports = s.ports := rfl
@[simp] theorem State.setSettings_requests (s : State) (x : Settings) : (s.setSettings x).requests = s.requests := rfl
@[simp] theorem State.setSettings_protocol (s : State) (x : Settings) : (s.setSettings x).protocol = s.protocol := rfl
@[simp] theorem State.setSettings_plan (s : State) (x : Settings) : (s.setSettings x).plan = s.plan := rfl
@[simp] theorem State.setSettings_fabric (s : State) (x : Settings) : (s.setSettings x).fabric = s.fabric := rfl
@[simp] theorem State.setSettings_mgmt (s : State) (x : Settings) : (s.setSettings x).mgmt = s.mgmt := rfl
@[simp] theorem State.setSettings_attention (s : State) (x : Settings) : (s.setSettings x).attention = s.attention := rfl
@[simp] theorem State.setSettings_now (s : State) (x : Settings) : (s.setSettings x).now = s.now := rfl
@[simp] theorem State.setSettings_orders (s : State) (x : Settings) : (s.setSettings x).orders = s.orders := rfl
@[simp] theorem State.setSettings_pending (s : State) (x : Settings) : (s.setSettings x).pending = s.pending := rfl

@[simp] theorem State.setTable_pins (s : State) (x : CircuitTable) : (s.setTable x).pins = s.pins := rfl
@[simp] theorem State.setTable_loader (s : State) (x : CircuitTable) : (s.setTable x).loader = s.loader := rfl
@[simp] theorem State.setTable_ring (s : State) (x : CircuitTable) : (s.setTable x).ring = s.ring := rfl
@[simp] theorem State.setTable_settings (s : State) (x : CircuitTable) : (s.setTable x).settings = s.settings := rfl
@[simp] theorem State.setTable_table (s : State) (x : CircuitTable) : (s.setTable x).table = x := rfl
@[simp] theorem State.setTable_monitors (s : State) (x : CircuitTable) : (s.setTable x).monitors = s.monitors := rfl
@[simp] theorem State.setTable_ports (s : State) (x : CircuitTable) : (s.setTable x).ports = s.ports := rfl
@[simp] theorem State.setTable_requests (s : State) (x : CircuitTable) : (s.setTable x).requests = s.requests := rfl
@[simp] theorem State.setTable_protocol (s : State) (x : CircuitTable) : (s.setTable x).protocol = s.protocol := rfl
@[simp] theorem State.setTable_plan (s : State) (x : CircuitTable) : (s.setTable x).plan = s.plan := rfl
@[simp] theorem State.setTable_fabric (s : State) (x : CircuitTable) : (s.setTable x).fabric = s.fabric := rfl
@[simp] theorem State.setTable_mgmt (s : State) (x : CircuitTable) : (s.setTable x).mgmt = s.mgmt := rfl
@[simp] theorem State.setTable_attention (s : State) (x : CircuitTable) : (s.setTable x).attention = s.attention := rfl
@[simp] theorem State.setTable_now (s : State) (x : CircuitTable) : (s.setTable x).now = s.now := rfl
@[simp] theorem State.setTable_orders (s : State) (x : CircuitTable) : (s.setTable x).orders = s.orders := rfl
@[simp] theorem State.setTable_pending (s : State) (x : CircuitTable) : (s.setTable x).pending = s.pending := rfl

@[simp] theorem State.setMonitors_pins (s : State) (x : Pair Monitor) : (s.setMonitors x).pins = s.pins := rfl
@[simp] theorem State.setMonitors_loader (s : State) (x : Pair Monitor) : (s.setMonitors x).loader = s.loader := rfl
@[simp] theorem State.setMonitors_ring (s : State) (x : Pair Monitor) : (s.setMonitors x).ring = s.ring := rfl
@[simp] theorem State.setMonitors_settings (s : State) (x : Pair Monitor) : (s.setMonitors x).settings = s.settings := rfl
@[simp] theorem State.setMonitors_table (s : State) (x : Pair Monitor) : (s.setMonitors x).table = s.table := rfl
@[simp] theorem State.setMonitors_monitors (s : State) (x : Pair Monitor) : (s.setMonitors x).monitors = x := rfl
@[simp] theorem State.setMonitors_ports (s : State) (x : Pair Monitor) : (s.setMonitors x).ports = s.ports := rfl
@[simp] theorem State.setMonitors_requests (s : State) (x : Pair Monitor) : (s.setMonitors x).requests = s.requests := rfl
@[simp] theorem State.setMonitors_protocol (s : State) (x : Pair Monitor) : (s.setMonitors x).protocol = s.protocol := rfl
@[simp] theorem State.setMonitors_plan (s : State) (x : Pair Monitor) : (s.setMonitors x).plan = s.plan := rfl
@[simp] theorem State.setMonitors_fabric (s : State) (x : Pair Monitor) : (s.setMonitors x).fabric = s.fabric := rfl
@[simp] theorem State.setMonitors_mgmt (s : State) (x : Pair Monitor) : (s.setMonitors x).mgmt = s.mgmt := rfl
@[simp] theorem State.setMonitors_attention (s : State) (x : Pair Monitor) : (s.setMonitors x).attention = s.attention := rfl
@[simp] theorem State.setMonitors_now (s : State) (x : Pair Monitor) : (s.setMonitors x).now = s.now := rfl
@[simp] theorem State.setMonitors_orders (s : State) (x : Pair Monitor) : (s.setMonitors x).orders = s.orders := rfl
@[simp] theorem State.setMonitors_pending (s : State) (x : Pair Monitor) : (s.setMonitors x).pending = s.pending := rfl

@[simp] theorem State.setPorts_pins (s : State) (x : Pair Port) : (s.setPorts x).pins = s.pins := rfl
@[simp] theorem State.setPorts_loader (s : State) (x : Pair Port) : (s.setPorts x).loader = s.loader := rfl
@[simp] theorem State.setPorts_ring (s : State) (x : Pair Port) : (s.setPorts x).ring = s.ring := rfl
@[simp] theorem State.setPorts_settings (s : State) (x : Pair Port) : (s.setPorts x).settings = s.settings := rfl
@[simp] theorem State.setPorts_table (s : State) (x : Pair Port) : (s.setPorts x).table = s.table := rfl
@[simp] theorem State.setPorts_monitors (s : State) (x : Pair Port) : (s.setPorts x).monitors = s.monitors := rfl
@[simp] theorem State.setPorts_ports (s : State) (x : Pair Port) : (s.setPorts x).ports = x := rfl
@[simp] theorem State.setPorts_requests (s : State) (x : Pair Port) : (s.setPorts x).requests = s.requests := rfl
@[simp] theorem State.setPorts_protocol (s : State) (x : Pair Port) : (s.setPorts x).protocol = s.protocol := rfl
@[simp] theorem State.setPorts_plan (s : State) (x : Pair Port) : (s.setPorts x).plan = s.plan := rfl
@[simp] theorem State.setPorts_fabric (s : State) (x : Pair Port) : (s.setPorts x).fabric = s.fabric := rfl
@[simp] theorem State.setPorts_mgmt (s : State) (x : Pair Port) : (s.setPorts x).mgmt = s.mgmt := rfl
@[simp] theorem State.setPorts_attention (s : State) (x : Pair Port) : (s.setPorts x).attention = s.attention := rfl
@[simp] theorem State.setPorts_now (s : State) (x : Pair Port) : (s.setPorts x).now = s.now := rfl
@[simp] theorem State.setPorts_orders (s : State) (x : Pair Port) : (s.setPorts x).orders = s.orders := rfl
@[simp] theorem State.setPorts_pending (s : State) (x : Pair Port) : (s.setPorts x).pending = s.pending := rfl

@[simp] theorem State.setRequests_pins (s : State) (x : RequestUnit) : (s.setRequests x).pins = s.pins := rfl
@[simp] theorem State.setRequests_loader (s : State) (x : RequestUnit) : (s.setRequests x).loader = s.loader := rfl
@[simp] theorem State.setRequests_ring (s : State) (x : RequestUnit) : (s.setRequests x).ring = s.ring := rfl
@[simp] theorem State.setRequests_settings (s : State) (x : RequestUnit) : (s.setRequests x).settings = s.settings := rfl
@[simp] theorem State.setRequests_table (s : State) (x : RequestUnit) : (s.setRequests x).table = s.table := rfl
@[simp] theorem State.setRequests_monitors (s : State) (x : RequestUnit) : (s.setRequests x).monitors = s.monitors := rfl
@[simp] theorem State.setRequests_ports (s : State) (x : RequestUnit) : (s.setRequests x).ports = s.ports := rfl
@[simp] theorem State.setRequests_requests (s : State) (x : RequestUnit) : (s.setRequests x).requests = x := rfl
@[simp] theorem State.setRequests_protocol (s : State) (x : RequestUnit) : (s.setRequests x).protocol = s.protocol := rfl
@[simp] theorem State.setRequests_plan (s : State) (x : RequestUnit) : (s.setRequests x).plan = s.plan := rfl
@[simp] theorem State.setRequests_fabric (s : State) (x : RequestUnit) : (s.setRequests x).fabric = s.fabric := rfl
@[simp] theorem State.setRequests_mgmt (s : State) (x : RequestUnit) : (s.setRequests x).mgmt = s.mgmt := rfl
@[simp] theorem State.setRequests_attention (s : State) (x : RequestUnit) : (s.setRequests x).attention = s.attention := rfl
@[simp] theorem State.setRequests_now (s : State) (x : RequestUnit) : (s.setRequests x).now = s.now := rfl
@[simp] theorem State.setRequests_orders (s : State) (x : RequestUnit) : (s.setRequests x).orders = s.orders := rfl
@[simp] theorem State.setRequests_pending (s : State) (x : RequestUnit) : (s.setRequests x).pending = s.pending := rfl

@[simp] theorem State.setProtocol_pins (s : State) (x : SwitchUnit) : (s.setProtocol x).pins = s.pins := rfl
@[simp] theorem State.setProtocol_loader (s : State) (x : SwitchUnit) : (s.setProtocol x).loader = s.loader := rfl
@[simp] theorem State.setProtocol_ring (s : State) (x : SwitchUnit) : (s.setProtocol x).ring = s.ring := rfl
@[simp] theorem State.setProtocol_settings (s : State) (x : SwitchUnit) : (s.setProtocol x).settings = s.settings := rfl
@[simp] theorem State.setProtocol_table (s : State) (x : SwitchUnit) : (s.setProtocol x).table = s.table := rfl
@[simp] theorem State.setProtocol_monitors (s : State) (x : SwitchUnit) : (s.setProtocol x).monitors = s.monitors := rfl
@[simp] theorem State.setProtocol_ports (s : State) (x : SwitchUnit) : (s.setProtocol x).ports = s.ports := rfl
@[simp] theorem State.setProtocol_requests (s : State) (x : SwitchUnit) : (s.setProtocol x).requests = s.requests := rfl
@[simp] theorem State.setProtocol_protocol (s : State) (x : SwitchUnit) : (s.setProtocol x).protocol = x := rfl
@[simp] theorem State.setProtocol_plan (s : State) (x : SwitchUnit) : (s.setProtocol x).plan = s.plan := rfl
@[simp] theorem State.setProtocol_fabric (s : State) (x : SwitchUnit) : (s.setProtocol x).fabric = s.fabric := rfl
@[simp] theorem State.setProtocol_mgmt (s : State) (x : SwitchUnit) : (s.setProtocol x).mgmt = s.mgmt := rfl
@[simp] theorem State.setProtocol_attention (s : State) (x : SwitchUnit) : (s.setProtocol x).attention = s.attention := rfl
@[simp] theorem State.setProtocol_now (s : State) (x : SwitchUnit) : (s.setProtocol x).now = s.now := rfl
@[simp] theorem State.setProtocol_orders (s : State) (x : SwitchUnit) : (s.setProtocol x).orders = s.orders := rfl
@[simp] theorem State.setProtocol_pending (s : State) (x : SwitchUnit) : (s.setProtocol x).pending = s.pending := rfl

@[simp] theorem State.setPlan_pins (s : State) (x : PlanEngine) : (s.setPlan x).pins = s.pins := rfl
@[simp] theorem State.setPlan_loader (s : State) (x : PlanEngine) : (s.setPlan x).loader = s.loader := rfl
@[simp] theorem State.setPlan_ring (s : State) (x : PlanEngine) : (s.setPlan x).ring = s.ring := rfl
@[simp] theorem State.setPlan_settings (s : State) (x : PlanEngine) : (s.setPlan x).settings = s.settings := rfl
@[simp] theorem State.setPlan_table (s : State) (x : PlanEngine) : (s.setPlan x).table = s.table := rfl
@[simp] theorem State.setPlan_monitors (s : State) (x : PlanEngine) : (s.setPlan x).monitors = s.monitors := rfl
@[simp] theorem State.setPlan_ports (s : State) (x : PlanEngine) : (s.setPlan x).ports = s.ports := rfl
@[simp] theorem State.setPlan_requests (s : State) (x : PlanEngine) : (s.setPlan x).requests = s.requests := rfl
@[simp] theorem State.setPlan_protocol (s : State) (x : PlanEngine) : (s.setPlan x).protocol = s.protocol := rfl
@[simp] theorem State.setPlan_plan (s : State) (x : PlanEngine) : (s.setPlan x).plan = x := rfl
@[simp] theorem State.setPlan_fabric (s : State) (x : PlanEngine) : (s.setPlan x).fabric = s.fabric := rfl
@[simp] theorem State.setPlan_mgmt (s : State) (x : PlanEngine) : (s.setPlan x).mgmt = s.mgmt := rfl
@[simp] theorem State.setPlan_attention (s : State) (x : PlanEngine) : (s.setPlan x).attention = s.attention := rfl
@[simp] theorem State.setPlan_now (s : State) (x : PlanEngine) : (s.setPlan x).now = s.now := rfl
@[simp] theorem State.setPlan_orders (s : State) (x : PlanEngine) : (s.setPlan x).orders = s.orders := rfl
@[simp] theorem State.setPlan_pending (s : State) (x : PlanEngine) : (s.setPlan x).pending = s.pending := rfl

@[simp] theorem State.setFabric_pins (s : State) (x : FabricPort) : (s.setFabric x).pins = s.pins := rfl
@[simp] theorem State.setFabric_loader (s : State) (x : FabricPort) : (s.setFabric x).loader = s.loader := rfl
@[simp] theorem State.setFabric_ring (s : State) (x : FabricPort) : (s.setFabric x).ring = s.ring := rfl
@[simp] theorem State.setFabric_settings (s : State) (x : FabricPort) : (s.setFabric x).settings = s.settings := rfl
@[simp] theorem State.setFabric_table (s : State) (x : FabricPort) : (s.setFabric x).table = s.table := rfl
@[simp] theorem State.setFabric_monitors (s : State) (x : FabricPort) : (s.setFabric x).monitors = s.monitors := rfl
@[simp] theorem State.setFabric_ports (s : State) (x : FabricPort) : (s.setFabric x).ports = s.ports := rfl
@[simp] theorem State.setFabric_requests (s : State) (x : FabricPort) : (s.setFabric x).requests = s.requests := rfl
@[simp] theorem State.setFabric_protocol (s : State) (x : FabricPort) : (s.setFabric x).protocol = s.protocol := rfl
@[simp] theorem State.setFabric_plan (s : State) (x : FabricPort) : (s.setFabric x).plan = s.plan := rfl
@[simp] theorem State.setFabric_fabric (s : State) (x : FabricPort) : (s.setFabric x).fabric = x := rfl
@[simp] theorem State.setFabric_mgmt (s : State) (x : FabricPort) : (s.setFabric x).mgmt = s.mgmt := rfl
@[simp] theorem State.setFabric_attention (s : State) (x : FabricPort) : (s.setFabric x).attention = s.attention := rfl
@[simp] theorem State.setFabric_now (s : State) (x : FabricPort) : (s.setFabric x).now = s.now := rfl
@[simp] theorem State.setFabric_orders (s : State) (x : FabricPort) : (s.setFabric x).orders = s.orders := rfl
@[simp] theorem State.setFabric_pending (s : State) (x : FabricPort) : (s.setFabric x).pending = s.pending := rfl

@[simp] theorem State.setMgmt_pins (s : State) (x : MgmtPort) : (s.setMgmt x).pins = s.pins := rfl
@[simp] theorem State.setMgmt_loader (s : State) (x : MgmtPort) : (s.setMgmt x).loader = s.loader := rfl
@[simp] theorem State.setMgmt_ring (s : State) (x : MgmtPort) : (s.setMgmt x).ring = s.ring := rfl
@[simp] theorem State.setMgmt_settings (s : State) (x : MgmtPort) : (s.setMgmt x).settings = s.settings := rfl
@[simp] theorem State.setMgmt_table (s : State) (x : MgmtPort) : (s.setMgmt x).table = s.table := rfl
@[simp] theorem State.setMgmt_monitors (s : State) (x : MgmtPort) : (s.setMgmt x).monitors = s.monitors := rfl
@[simp] theorem State.setMgmt_ports (s : State) (x : MgmtPort) : (s.setMgmt x).ports = s.ports := rfl
@[simp] theorem State.setMgmt_requests (s : State) (x : MgmtPort) : (s.setMgmt x).requests = s.requests := rfl
@[simp] theorem State.setMgmt_protocol (s : State) (x : MgmtPort) : (s.setMgmt x).protocol = s.protocol := rfl
@[simp] theorem State.setMgmt_plan (s : State) (x : MgmtPort) : (s.setMgmt x).plan = s.plan := rfl
@[simp] theorem State.setMgmt_fabric (s : State) (x : MgmtPort) : (s.setMgmt x).fabric = s.fabric := rfl
@[simp] theorem State.setMgmt_mgmt (s : State) (x : MgmtPort) : (s.setMgmt x).mgmt = x := rfl
@[simp] theorem State.setMgmt_attention (s : State) (x : MgmtPort) : (s.setMgmt x).attention = s.attention := rfl
@[simp] theorem State.setMgmt_now (s : State) (x : MgmtPort) : (s.setMgmt x).now = s.now := rfl
@[simp] theorem State.setMgmt_orders (s : State) (x : MgmtPort) : (s.setMgmt x).orders = s.orders := rfl
@[simp] theorem State.setMgmt_pending (s : State) (x : MgmtPort) : (s.setMgmt x).pending = s.pending := rfl

@[simp] theorem State.setAttention_pins (s : State) (x : Attention) : (s.setAttention x).pins = s.pins := rfl
@[simp] theorem State.setAttention_loader (s : State) (x : Attention) : (s.setAttention x).loader = s.loader := rfl
@[simp] theorem State.setAttention_ring (s : State) (x : Attention) : (s.setAttention x).ring = s.ring := rfl
@[simp] theorem State.setAttention_settings (s : State) (x : Attention) : (s.setAttention x).settings = s.settings := rfl
@[simp] theorem State.setAttention_table (s : State) (x : Attention) : (s.setAttention x).table = s.table := rfl
@[simp] theorem State.setAttention_monitors (s : State) (x : Attention) : (s.setAttention x).monitors = s.monitors := rfl
@[simp] theorem State.setAttention_ports (s : State) (x : Attention) : (s.setAttention x).ports = s.ports := rfl
@[simp] theorem State.setAttention_requests (s : State) (x : Attention) : (s.setAttention x).requests = s.requests := rfl
@[simp] theorem State.setAttention_protocol (s : State) (x : Attention) : (s.setAttention x).protocol = s.protocol := rfl
@[simp] theorem State.setAttention_plan (s : State) (x : Attention) : (s.setAttention x).plan = s.plan := rfl
@[simp] theorem State.setAttention_fabric (s : State) (x : Attention) : (s.setAttention x).fabric = s.fabric := rfl
@[simp] theorem State.setAttention_mgmt (s : State) (x : Attention) : (s.setAttention x).mgmt = s.mgmt := rfl
@[simp] theorem State.setAttention_attention (s : State) (x : Attention) : (s.setAttention x).attention = x := rfl
@[simp] theorem State.setAttention_now (s : State) (x : Attention) : (s.setAttention x).now = s.now := rfl
@[simp] theorem State.setAttention_orders (s : State) (x : Attention) : (s.setAttention x).orders = s.orders := rfl
@[simp] theorem State.setAttention_pending (s : State) (x : Attention) : (s.setAttention x).pending = s.pending := rfl

@[simp] theorem State.setNow_pins (s : State) (x : Nat) : (s.setNow x).pins = s.pins := rfl
@[simp] theorem State.setNow_loader (s : State) (x : Nat) : (s.setNow x).loader = s.loader := rfl
@[simp] theorem State.setNow_ring (s : State) (x : Nat) : (s.setNow x).ring = s.ring := rfl
@[simp] theorem State.setNow_settings (s : State) (x : Nat) : (s.setNow x).settings = s.settings := rfl
@[simp] theorem State.setNow_table (s : State) (x : Nat) : (s.setNow x).table = s.table := rfl
@[simp] theorem State.setNow_monitors (s : State) (x : Nat) : (s.setNow x).monitors = s.monitors := rfl
@[simp] theorem State.setNow_ports (s : State) (x : Nat) : (s.setNow x).ports = s.ports := rfl
@[simp] theorem State.setNow_requests (s : State) (x : Nat) : (s.setNow x).requests = s.requests := rfl
@[simp] theorem State.setNow_protocol (s : State) (x : Nat) : (s.setNow x).protocol = s.protocol := rfl
@[simp] theorem State.setNow_plan (s : State) (x : Nat) : (s.setNow x).plan = s.plan := rfl
@[simp] theorem State.setNow_fabric (s : State) (x : Nat) : (s.setNow x).fabric = s.fabric := rfl
@[simp] theorem State.setNow_mgmt (s : State) (x : Nat) : (s.setNow x).mgmt = s.mgmt := rfl
@[simp] theorem State.setNow_attention (s : State) (x : Nat) : (s.setNow x).attention = s.attention := rfl
@[simp] theorem State.setNow_now (s : State) (x : Nat) : (s.setNow x).now = x := rfl
@[simp] theorem State.setNow_orders (s : State) (x : Nat) : (s.setNow x).orders = s.orders := rfl
@[simp] theorem State.setNow_pending (s : State) (x : Nat) : (s.setNow x).pending = s.pending := rfl

@[simp] theorem State.setOrders_pins (s : State) (x : Choices) : (s.setOrders x).pins = s.pins := rfl
@[simp] theorem State.setOrders_loader (s : State) (x : Choices) : (s.setOrders x).loader = s.loader := rfl
@[simp] theorem State.setOrders_ring (s : State) (x : Choices) : (s.setOrders x).ring = s.ring := rfl
@[simp] theorem State.setOrders_settings (s : State) (x : Choices) : (s.setOrders x).settings = s.settings := rfl
@[simp] theorem State.setOrders_table (s : State) (x : Choices) : (s.setOrders x).table = s.table := rfl
@[simp] theorem State.setOrders_monitors (s : State) (x : Choices) : (s.setOrders x).monitors = s.monitors := rfl
@[simp] theorem State.setOrders_ports (s : State) (x : Choices) : (s.setOrders x).ports = s.ports := rfl
@[simp] theorem State.setOrders_requests (s : State) (x : Choices) : (s.setOrders x).requests = s.requests := rfl
@[simp] theorem State.setOrders_protocol (s : State) (x : Choices) : (s.setOrders x).protocol = s.protocol := rfl
@[simp] theorem State.setOrders_plan (s : State) (x : Choices) : (s.setOrders x).plan = s.plan := rfl
@[simp] theorem State.setOrders_fabric (s : State) (x : Choices) : (s.setOrders x).fabric = s.fabric := rfl
@[simp] theorem State.setOrders_mgmt (s : State) (x : Choices) : (s.setOrders x).mgmt = s.mgmt := rfl
@[simp] theorem State.setOrders_attention (s : State) (x : Choices) : (s.setOrders x).attention = s.attention := rfl
@[simp] theorem State.setOrders_now (s : State) (x : Choices) : (s.setOrders x).now = s.now := rfl
@[simp] theorem State.setOrders_orders (s : State) (x : Choices) : (s.setOrders x).orders = x := rfl
@[simp] theorem State.setOrders_pending (s : State) (x : Choices) : (s.setOrders x).pending = s.pending := rfl

@[simp] theorem State.setPending_pins (s : State) (x : List Instr) : (s.setPending x).pins = s.pins := rfl
@[simp] theorem State.setPending_loader (s : State) (x : List Instr) : (s.setPending x).loader = s.loader := rfl
@[simp] theorem State.setPending_ring (s : State) (x : List Instr) : (s.setPending x).ring = s.ring := rfl
@[simp] theorem State.setPending_settings (s : State) (x : List Instr) : (s.setPending x).settings = s.settings := rfl
@[simp] theorem State.setPending_table (s : State) (x : List Instr) : (s.setPending x).table = s.table := rfl
@[simp] theorem State.setPending_monitors (s : State) (x : List Instr) : (s.setPending x).monitors = s.monitors := rfl
@[simp] theorem State.setPending_ports (s : State) (x : List Instr) : (s.setPending x).ports = s.ports := rfl
@[simp] theorem State.setPending_requests (s : State) (x : List Instr) : (s.setPending x).requests = s.requests := rfl
@[simp] theorem State.setPending_protocol (s : State) (x : List Instr) : (s.setPending x).protocol = s.protocol := rfl
@[simp] theorem State.setPending_plan (s : State) (x : List Instr) : (s.setPending x).plan = s.plan := rfl
@[simp] theorem State.setPending_fabric (s : State) (x : List Instr) : (s.setPending x).fabric = s.fabric := rfl
@[simp] theorem State.setPending_mgmt (s : State) (x : List Instr) : (s.setPending x).mgmt = s.mgmt := rfl
@[simp] theorem State.setPending_attention (s : State) (x : List Instr) : (s.setPending x).attention = s.attention := rfl
@[simp] theorem State.setPending_now (s : State) (x : List Instr) : (s.setPending x).now = s.now := rfl
@[simp] theorem State.setPending_orders (s : State) (x : List Instr) : (s.setPending x).orders = s.orders := rfl
@[simp] theorem State.setPending_pending (s : State) (x : List Instr) : (s.setPending x).pending = x := rfl

@[simp] theorem Pair.get_set_same {α : Type} (p : Pair α) (x : Side) (v : α) : (p.set x v).get x = v := by
  cases x <;> rfl

@[simp] theorem Pair.get_set_opposite {α : Type} (p : Pair α) (x : Side) (v : α) :
    (p.set x v).get x.opposite = p.get x.opposite := by
  cases x <;> rfl

@[simp] theorem Pair.get_opposite_set {α : Type} (p : Pair α) (x : Side) (v : α) :
    (p.set x.opposite v).get x = p.get x := by
  cases x <;> rfl

@[simp] theorem Pair.set_get_same {α : Type} (p : Pair α) (x : Side) : p.set x (p.get x) = p := by
  cases x <;> rfl

@[simp] theorem Pair.get_each {α : Type} (f : Side → α) (x : Side) : (Pair.each f).get x = f x := by
  cases x <;> rfl

theorem Pair.ext_get {α : Type} {p q : Pair α} (h : ∀ x, p.get x = q.get x) : p = q := by
  cases p; cases q
  have he := h .east
  have hw := h .west
  simp only [Pair.get] at he hw
  rw [he, hw]

@[simp] theorem Side.opposite_opposite (x : Side) : x.opposite.opposite = x := by
  cases x <;> rfl

theorem Side.opposite_ne (x : Side) : x.opposite ≠ x := by
  cases x <;> decide

end Sys2Proof.Machine
end

