-- ==== Sys2Proof/Laws/Frames.lean ====
section
/-!
SUPPORT. What each shared operation leaves as it is: one lemma for each, in the terms of Safety.lean, and the lemmas that
chain them.
-/

namespace Sys2Proof.Machine

/-! ### Chaining -/

theorem onlyChanges_refl (bs : List Block) (s : State) : onlyChanges bs s s := by
  intro b _; cases b <;> rfl

theorem sameBlock_trans {s t u : State} {b : Block} (h : sameBlock s t b) (k : sameBlock t u b) : sameBlock s u b := by
  cases b <;> exact Eq.trans k h

theorem onlyChanges_mono {bs cs : List Block} {s t : State} (h : onlyChanges bs s t) (sub : ∀ b ∈ bs, b ∈ cs) :
    onlyChanges cs s t := fun b hb => h b fun hm => hb (sub b hm)

theorem onlyChanges_trans {bs : List Block} {s t u : State} (h : onlyChanges bs s t) (k : onlyChanges bs t u) :
    onlyChanges bs s u := fun b hb => sameBlock_trans (h b hb) (k b hb)

/-- Two steps of a chain whose lists lie within a third. -/
theorem onlyChanges_chain {as bs cs : List Block} {s t u : State} (h : onlyChanges as s t) (k : onlyChanges bs t u)
    (ha : ∀ b ∈ as, b ∈ cs) (hb : ∀ b ∈ bs, b ∈ cs) : onlyChanges cs s u :=
  onlyChanges_trans (onlyChanges_mono h ha) (onlyChanges_mono k hb)

theorem onlyChanges_ite {bs : List Block} {s t u : State} {p : Prop} [Decidable p] (h : onlyChanges bs s t)
    (k : onlyChanges bs s u) : onlyChanges bs s (if p then t else u) := by
  split
  · exact h
  · exact k

/-! ### One block replaced -/

theorem setPins_only (s : State) (x : Pins) : onlyChanges [.pins] s (s.setPins x) := by
  intro b hb; cases b <;> first | rfl | exact absurd (List.mem_cons_self ..) hb

theorem setLoader_only (s : State) (x : Loader) : onlyChanges [.loader] s (s.setLoader x) := by
  intro b hb; cases b <;> first | rfl | exact absurd (List.mem_cons_self ..) hb

theorem setRing_only (s : State) (x : Option Ring) : onlyChanges [.ring] s (s.setRing x) := by
  intro b hb; cases b <;> first | rfl | exact absurd (List.mem_cons_self ..) hb

theorem setSettings_only (s : State) (x : Settings) : onlyChanges [.settings] s (s.setSettings x) := by
  intro b hb; cases b <;> first | rfl | exact absurd (List.mem_cons_self ..) hb

theorem setTable_only (s : State) (x : CircuitTable) : onlyChanges [.table] s (s.setTable x) := by
  intro b hb; cases b <;> first | rfl | exact absurd (List.mem_cons_self ..) hb

theorem setMonitors_only (s : State) (x : Pair Monitor) : onlyChanges [.monitors] s (s.setMonitors x) := by
  intro b hb; cases b <;> first | rfl | exact absurd (List.mem_cons_self ..) hb

theorem setMonitor_only (s : State) (x : Side) (m : Monitor) : onlyChanges [.monitors] s (s.setMonitor x m) :=
  setMonitors_only s _

theorem setPorts_only (s : State) (x : Pair Port) : onlyChanges [.ports] s (s.setPorts x) := by
  intro b hb; cases b <;> first | rfl | exact absurd (List.mem_cons_self ..) hb

theorem setPort_only (s : State) (x : Side) (p : Port) : onlyChanges [.ports] s (s.setPort x p) := setPorts_only s _

theorem setRequests_only (s : State) (x : RequestUnit) : onlyChanges [.requests] s (s.setRequests x) := by
  intro b hb; cases b <;> first | rfl | exact absurd (List.mem_cons_self ..) hb

theorem setProtocol_only (s : State) (x : SwitchUnit) : onlyChanges [.protocol] s (s.setProtocol x) := by
  intro b hb; cases b <;> first | rfl | exact absurd (List.mem_cons_self ..) hb

theorem setPlan_only (s : State) (x : PlanEngine) : onlyChanges [.plan] s (s.setPlan x) := by
  intro b hb; cases b <;> first | rfl | exact absurd (List.mem_cons_self ..) hb

theorem setFabric_only (s : State) (x : FabricPort) : onlyChanges [.fabric] s (s.setFabric x) := by
  intro b hb; cases b <;> first | rfl | exact absurd (List.mem_cons_self ..) hb

theorem setMgmt_only (s : State) (x : MgmtPort) : onlyChanges [.mgmt] s (s.setMgmt x) := by
  intro b hb; cases b <;> first | rfl | exact absurd (List.mem_cons_self ..) hb

theorem setAttention_only (s : State) (x : Attention) : onlyChanges [.attention] s (s.setAttention x) := by
  intro b hb; cases b <;> first | rfl | exact absurd (List.mem_cons_self ..) hb

theorem dropOrder_only (s : State) : onlyChanges [.orders] s s.dropOrder := by
  intro b hb; cases b <;> first | rfl | exact absurd (List.mem_cons_self ..) hb

/-! ### Attention and sweeps -/

theorem report_only (s : State) (g : FaultGroup) (k : FaultKind) (d : Nat) :
    onlyChanges [.attention] s (s.report g k d) := setAttention_only s _

theorem startSweep_only (s : State) (n : Nat) : onlyChanges [.plan] s (s.startSweep n) := setPlan_only s _

/-- A sweep trigger touches the Plan Engine, and the Attention Unit by its RESTART-LIMIT. -/
theorem trigger_only (s : State) : onlyChanges [.plan, .attention] s s.trigger := by
  unfold State.trigger
  split
  · exact onlyChanges_mono (startSweep_only s _) (by decide)
  · split
    · exact onlyChanges_mono (startSweep_only s _) (by decide)
    · split
      · exact onlyChanges_refl _ _
      · exact onlyChanges_chain (setPlan_only s _) (report_only _ _ _ _) (by decide) (by decide)

/-! ### The Switch Protocol Unit -/

/-- What the close of an event of the Switch Protocol Unit may touch. -/
abbrev switchReach : List Block := [.protocol, .ports, .plan, .attention]

theorem writeChoice_only (s : State) (x : Side) : onlyChanges [.protocol, .ports] s (s.writeChoice x) := by
  unfold State.writeChoice
  dsimp only
  split
  · exact onlyChanges_refl _ _
  · exact onlyChanges_chain (setProtocol_only s _) (setPort_only _ _ _) (by decide) (by decide)

theorem triggerIfDecided_only (s : State) (u : SwitchUnit) (x : Side) :
    onlyChanges [.plan, .attention] s (s.triggerIfDecided u x) := by
  unfold State.triggerIfDecided
  exact onlyChanges_ite (onlyChanges_refl _ _) (trigger_only s)

theorem closeSwitch_only (s : State) : onlyChanges switchReach s s.closeSwitch := by
  unfold State.closeSwitch
  have h1 := onlyChanges_mono (cs := switchReach) (setProtocol_only s (s.protocol.decideBoth s.geo)) (by decide)
  have h2 := fun (t : State) (u : SwitchUnit) (x : Side) =>
    onlyChanges_mono (cs := switchReach) (triggerIfDecided_only t u x) (by decide)
  have h3 := fun (t : State) (x : Side) => onlyChanges_mono (cs := switchReach) (writeChoice_only t x) (by decide)
  exact onlyChanges_trans h1 (onlyChanges_trans (h2 _ _ _) (onlyChanges_trans (h2 _ _ _)
    (onlyChanges_trans (h3 _ _) (h3 _ _))))

theorem switchTakesDerivation_only (s : State) : onlyChanges switchReach s s.switchTakesDerivation :=
  onlyChanges_chain (setProtocol_only s _) (closeSwitch_only _) (by decide) (by decide)

theorem switchTakesStanding_only (s : State) (x : Side) : onlyChanges switchReach s (s.switchTakesStanding x) :=
  onlyChanges_chain (setProtocol_only s _) (closeSwitch_only _) (by decide) (by decide)

theorem switchTakesCompletion_only (s : State) (d : Pair SideState) :
    onlyChanges switchReach s (s.switchTakesCompletion d) := by
  unfold State.switchTakesCompletion State.startAnswers
  exact onlyChanges_chain (onlyChanges_chain (setProtocol_only s _) (closeSwitch_only _) (cs := switchReach) (by decide)
    (by decide)) (setProtocol_only _ _) (by decide) (by decide)

theorem answerExpires_only (s : State) (x : Side) : onlyChanges switchReach s (s.answerExpires x) := by
  unfold State.answerExpires
  dsimp only
  split
  · exact onlyChanges_chain (onlyChanges_chain (setProtocol_only s _) (report_only _ _ _ _) (cs := switchReach)
      (by decide) (by decide)) (closeSwitch_only _) (by decide) (by decide)
  · exact onlyChanges_refl _ _

/-! ### The Request Unit -/

/-- What a derivation and its hand-on may touch. -/
abbrev requestReach : List Block := [.requests, .protocol, .ports, .plan, .attention, .orders]

theorem handOn_only (s : State) (old : RequestUnit) : onlyChanges requestReach s (s.handOn old) := by
  have ht := fun t : State => onlyChanges_mono (cs := requestReach) (trigger_only t) (by decide)
  have hs := fun t : State => onlyChanges_mono (cs := requestReach) (switchTakesDerivation_only t) (by decide)
  have hd := onlyChanges_mono (cs := requestReach) (dropOrder_only s) (by decide)
  unfold State.handOn
  split
  · exact onlyChanges_refl _ _
  · exact ht s
  · exact hs s
  · exact onlyChanges_ite (onlyChanges_trans hd (onlyChanges_trans (ht _) (hs _)))
      (onlyChanges_trans hd (onlyChanges_trans (hs _) (ht _)))

theorem deriveFrom_only (s : State) (sides : Pair LocalRequest) : onlyChanges requestReach s (s.deriveFrom sides) :=
  onlyChanges_chain (setRequests_only s _) (handOn_only _ _) (by decide) (by decide)

theorem changeLocal_only (s : State) (x : Side) (l : LocalRequest) : onlyChanges requestReach s (s.changeLocal x l) :=
  deriveFrom_only s _

theorem requestTakesLevel_only (s : State) (x : Side) (l : Level) :
    onlyChanges requestReach s (s.requestTakesLevel x l) := by
  unfold State.requestTakesLevel
  cases l
  · exact onlyChanges_ite (changeLocal_only _ _ _) (changeLocal_only _ _ _)
  · exact changeLocal_only _ _ _
  · exact changeLocal_only _ _ _

theorem requestTakesStanding_only (s : State) (x : Side) : onlyChanges requestReach s (s.requestTakesStanding x) :=
  deriveFrom_only s _

theorem settleExpires_only (s : State) (x : Side) : onlyChanges requestReach s (s.settleExpires x) := by
  exact onlyChanges_ite (changeLocal_only _ _ _) (onlyChanges_refl _ _)

theorem echoExpires_only (s : State) (x : Side) : onlyChanges requestReach s (s.echoExpires x) := by
  exact onlyChanges_ite (deriveFrom_only _ _) (onlyChanges_refl _ _)

/-! ### The Line Monitors and the links -/

/-- What an event at a Line Monitor or a link may touch. -/
abbrev lineReach : List Block := [.monitors, .requests, .protocol, .ports, .plan, .attention, .orders]

theorem declare_only (s : State) (x : Side) (old : Level) : onlyChanges requestReach s (s.declare x old) := by
  unfold State.declare
  exact onlyChanges_ite (onlyChanges_refl _ _) (requestTakesLevel_only _ _ _)

/-- A monitor replaced and its declared level handed over. -/
theorem setMonitor_declare_only (s : State) (x : Side) (m : Monitor) (old : Level) :
    onlyChanges lineReach s ((s.setMonitor x m).declare x old) :=
  onlyChanges_chain (setMonitor_only s x m) (declare_only _ _ _) (by decide) (by decide)

theorem formRaw_only (s : State) (x : Side) : onlyChanges lineReach s (s.formRaw x) := by
  unfold State.formRaw
  exact onlyChanges_ite (onlyChanges_refl _ _) (setMonitor_declare_only _ _ _ _)

theorem dimExpires_only (s : State) (x : Side) : onlyChanges lineReach s (s.dimExpires x) := by
  exact onlyChanges_ite (setMonitor_declare_only _ _ _ _) (onlyChanges_refl _ _)

theorem darkExpires_only (s : State) (x : Side) : onlyChanges lineReach s (s.darkExpires x) := by
  exact onlyChanges_ite (setMonitor_declare_only _ _ _ _) (onlyChanges_refl _ _)

theorem soakExpires_only (s : State) (x : Side) : onlyChanges lineReach s (s.soakExpires x) := by
  exact onlyChanges_ite (setMonitor_declare_only _ _ _ _) (onlyChanges_refl _ _)

theorem takesStanding_only (x : Side) (b : Bool) (s : State) (t : Taker) :
    onlyChanges lineReach s (s.takesStanding x b t) := by
  unfold State.takesStanding
  cases t
  · exact onlyChanges_mono (switchTakesStanding_only s x) (by decide)
  · exact onlyChanges_mono (requestTakesStanding_only s x) (by decide)
  · exact onlyChanges_ite (formRaw_only s x) (onlyChanges_refl _ _)

/-- A fold of operations that each keep to a list keeps to it. -/
theorem foldl_only {α : Type} {bs : List Block} (f : State → α → State) (h : ∀ s a, onlyChanges bs s (f s a)) :
    ∀ (l : List α) (s : State), onlyChanges bs s (l.foldl f s)
  | [], s => onlyChanges_refl bs s
  | a :: l, s => onlyChanges_trans (h s a) (foldl_only f h l (f s a))

theorem handStanding_only (s : State) (x : Side) (b : Bool) : onlyChanges lineReach s (s.handStanding x b) :=
  onlyChanges_trans (onlyChanges_mono (dropOrder_only s) (by decide))
    (foldl_only _ (fun s t => takesStanding_only x b s t) _ _)

theorem discardFrame_only (s : State) (x : Side) (k : FaultKind) (d : Nat) :
    onlyChanges [.ports, .attention] s (s.discardFrame x k d) :=
  onlyChanges_chain (setPort_only s x _) (report_only _ _ _ _) (by decide) (by decide)

theorem acceptFrame_only (s : State) (x : Side) (n : Notice) : onlyChanges lineReach s (s.acceptFrame x n) := by
  unfold State.acceptFrame
  dsimp only
  split
  · exact onlyChanges_chain (setPort_only s x _) (handStanding_only _ _ _) (by decide) (by decide)
  · exact onlyChanges_mono (setPort_only s x _) (by decide)

theorem receive_only (s : State) (x : Side) (f : List Byte) : onlyChanges lineReach s (s.receive x f) := by
  unfold State.receive
  split
  · exact onlyChanges_refl _ _
  · split
    · exact onlyChanges_mono (discardFrame_only _ _ _ _) (by decide)
    · exact onlyChanges_mono (discardFrame_only _ _ _ _) (by decide)
    · exact acceptFrame_only _ _ _

theorem linkExpires_only (s : State) (x : Side) : onlyChanges lineReach s (s.linkExpires x) := by
  exact onlyChanges_ite
    (onlyChanges_chain (onlyChanges_chain (setPort_only s x _) (report_only _ _ _ _) (cs := lineReach) (by decide)
      (by decide)) (handStanding_only _ _ _) (by decide) (by decide))
    (onlyChanges_refl _ _)

/-- An event of both sides keeps to what the event of one side keeps to, but for the order it uses up. -/
theorem eachSide_only {bs : List Block} (s : State) (f : Side → State → State)
    (h : ∀ x t, onlyChanges bs t (f x t)) (ho : Block.orders ∈ bs) : onlyChanges bs s (s.eachSide f) := by
  have hd : onlyChanges bs s s.dropOrder := onlyChanges_mono (dropOrder_only s) (by simpa using ho)
  unfold State.eachSide
  exact onlyChanges_ite (onlyChanges_trans hd (onlyChanges_trans (h _ _) (h _ _)))
    (onlyChanges_trans hd (onlyChanges_trans (h _ _) (h _ _)))

/-! ### The Fabric Port -/

theorem tryPublish_only (s : State) : onlyChanges [.fabric] s s.tryPublish := by
  unfold State.tryPublish
  split
  · exact setFabric_only s _
  · exact onlyChanges_refl _ _

theorem commitMap_only (s : State) (m : SelectorMap) : onlyChanges [.fabric] s (s.commitMap m) :=
  onlyChanges_trans (setFabric_only s _) (tryPublish_only _)

theorem gateFormed_only (s : State) (b : Bool) : onlyChanges [.fabric] s (s.gateFormed b) := by
  unfold State.gateFormed
  exact onlyChanges_ite (tryPublish_only s) (onlyChanges_refl _ _)

theorem setFreezeFlag_only (s : State) (b : Bool) : onlyChanges [.fabric] s (s.setFreezeFlag b) :=
  onlyChanges_trans (setFabric_only s _) (gateFormed_only _ _)

theorem takeFreezePin_only (s : State) (b : Bool) : onlyChanges [.pins, .fabric] s (s.takeFreezePin b) :=
  onlyChanges_chain (setPins_only s _) (gateFormed_only _ _) (by decide) (by decide)

theorem takeDone_only (s : State) (g : Nat) :
    onlyChanges [.fabric, .protocol, .ports, .plan, .attention] s (s.takeDone g) := by
  unfold State.takeDone
  split
  · exact onlyChanges_refl _ _
  · exact onlyChanges_ite
      (onlyChanges_chain (onlyChanges_chain (setFabric_only s _) (switchTakesCompletion_only _ _)
        (cs := [.fabric, .protocol, .ports, .plan, .attention]) (by decide) (by decide)) (tryPublish_only _) (by decide)
        (by decide))
      (onlyChanges_refl _ _)

theorem timeOut_only (s : State) (flight : InFlight) : onlyChanges [.fabric, .attention] s (s.timeOut flight) :=
  onlyChanges_ite
    (onlyChanges_chain (onlyChanges_chain (report_only s _ _ _) (setFabric_only _ _) (cs := [.fabric, .attention])
      (by decide) (by decide)) (tryPublish_only _) (by decide) (by decide))
    (onlyChanges_chain (report_only s _ _ _) (setFabric_only _ _) (by decide) (by decide))

theorem fabricExpires_only (s : State) : onlyChanges [.fabric, .attention] s s.fabricExpires := by
  unfold State.fabricExpires
  split
  · exact onlyChanges_refl _ _
  · exact onlyChanges_ite (timeOut_only _ _) (onlyChanges_refl _ _)

theorem completeSweep_only (s : State) : onlyChanges [.plan, .attention, .fabric] s s.completeSweep := by
  unfold State.completeSweep
  split
  · exact onlyChanges_refl _ _
  · have hp := fun (t : State) (x : PlanEngine) =>
      onlyChanges_mono (cs := [.plan, .attention, .fabric]) (setPlan_only t x) (by decide)
    have ha := fun (t : State) (x : Attention) =>
      onlyChanges_mono (cs := [.plan, .attention, .fabric]) (setAttention_only t x) (by decide)
    have hm := fun (t : State) (x : SelectorMap) =>
      onlyChanges_mono (cs := [.plan, .attention, .fabric]) (commitMap_only t x) (by decide)
    have hs := fun (t : State) (n : Nat) =>
      onlyChanges_mono (cs := [.plan, .attention, .fabric]) (startSweep_only t n) (by decide)
    dsimp only
    refine onlyChanges_ite (onlyChanges_trans ?_ (hs _ _)) ?_ <;>
    · refine onlyChanges_trans ?_ (hp _ _)
      refine onlyChanges_trans ?_ (hm _ _)
      exact onlyChanges_ite (onlyChanges_trans (hp _ _) (ha _ _)) (hp _ _)

end Sys2Proof.Machine
end

