-- ==== Sys2Proof/Laws/HostFrames.lean ====
section
/-!
SUPPORT. What each service of the management port leaves as it is, and what the port's own operations do.
-/

namespace Sys2Proof.Machine

/-- A service that changes the state only in its accepted case. -/
theorem reply_only {bs : List Block} {s t : State} {r q : Reply} {p : Prop} [Decidable p]
    (h : onlyChanges bs s t) : onlyChanges bs s (if p then (s, r) else (t, q)).1 := by
  split
  · exact onlyChanges_refl _ _
  · exact h

/-! ### The Circuit Table -/

/-- What an accepted edit of the table may touch. -/
abbrev tableReach : List Block := [.table, .plan, .attention]

theorem setTable_trigger_only (s : State) (x : CircuitTable) : onlyChanges tableReach s (s.setTable x).trigger :=
  onlyChanges_chain (setTable_only s x) (trigger_only _) (by decide) (by decide)

theorem addCircuit_only (s : State) (c : Circuit) : onlyChanges tableReach s (s.addCircuit c) :=
  setTable_trigger_only s _

theorem editCircuit_only (s : State) (c d : Circuit) : onlyChanges tableReach s (s.editCircuit c d) := by
  unfold State.editCircuit
  exact onlyChanges_ite (setTable_trigger_only s _) (onlyChanges_mono (setTable_only s _) (by decide))

theorem retireCircuit_only (s : State) (c : Circuit) : onlyChanges tableReach s (s.retireCircuit c) :=
  setTable_trigger_only s _

theorem serveAdd_only (body : List Byte) (s : State) : onlyChanges tableReach s (serveAdd body s).1 := by
  have r := onlyChanges_refl tableReach s
  unfold serveAdd
  cases parseAdd body with
  | none => exact r
  | some a =>
    dsimp only
    split
    · exact r
    · cases s.geo.checkAdd a with
      | error d => exact r
      | ok c =>
        dsimp only
        split
        · exact r
        · cases s.geo.clashing s.table.circuits c with
          | some d => exact r
          | none =>
            dsimp only
            split
            · exact r
            · exact addCircuit_only s c

theorem serveEdit_only (body : List Byte) (s : State) : onlyChanges tableReach s (serveEdit body s).1 := by
  have r := onlyChanges_refl tableReach s
  unfold serveEdit
  cases parseEdit body with
  | none => exact r
  | some e =>
    dsimp only
    split
    · exact r
    · split
      · exact r
      · split
        · exact r
        · cases s.table.find e.id with
          | none => exact r
          | some c =>
            dsimp only
            split
            · exact r
            · exact editCircuit_only s c _

theorem serveRetire_only (body : List Byte) (s : State) : onlyChanges tableReach s (serveRetire body s).1 := by
  have r := onlyChanges_refl tableReach s
  unfold serveRetire
  cases parseId body with
  | none => exact r
  | some id =>
    dsimp only
    split
    · exact r
    · split
      · exact r
      · cases s.table.find id with
        | none => exact r
        | some c => exact retireCircuit_only s c

/-- READ changes nothing (R25). -/
theorem serveRead_state (body : List Byte) (s : State) : (serveRead body s).1 = s := by
  unfold serveRead
  cases parseId body with
  | none => rfl
  | some id =>
    dsimp only
    split
    · rfl
    · cases s.table.find id <;> rfl

/-- CHANNEL-READ changes nothing (R25). -/
theorem serveChannelRead_state (body : List Byte) (s : State) : (serveChannelRead body s).1 = s := by
  unfold serveChannelRead
  split
  · cases s.geo.positionOf _ with
    | none => rfl
    | some span =>
      dsimp only
      split <;> rfl
  · rfl

/-- WALK moves only the cursor (R25). -/
theorem serveWalk_only (body : List Byte) (s : State) : onlyChanges [.table] s (serveWalk body s).1 := by
  have r := onlyChanges_refl [.table] s
  unfold serveWalk
  split
  · split
    · exact r
    · split <;> exact setTable_only s _
  · exact r

theorem serveWalk_circuits (body : List Byte) (s : State) :
    (serveWalk body s).1.table.circuits = s.table.circuits := by
  unfold serveWalk
  split
  · split
    · rfl
    · split <;> rfl
  · rfl

/-! ### The other services -/

/-- SPAN-READ changes nothing (R15). -/
theorem serveSpanRead_state (body : List Byte) (s : State) : (serveSpanRead body s).1 = s := by
  unfold serveSpanRead
  split
  · cases s.geo.positionOf _ <;> rfl
  · rfl

theorem setDelay_only (s : State) (span delay : Nat) :
    onlyChanges [.ring, .plan, .attention] s (s.setDelay span delay) := by
  unfold State.setDelay
  dsimp only
  exact onlyChanges_ite (onlyChanges_mono (setRing_only s _) (by decide))
    (onlyChanges_chain (setRing_only s _) (trigger_only _) (by decide) (by decide))

theorem serveSpanDelay_only (body : List Byte) (s : State) :
    onlyChanges [.ring, .plan, .attention] s (serveSpanDelay body s).1 := by
  have r := onlyChanges_refl [.ring, .plan, .attention] s
  unfold serveSpanDelay
  split
  · split
    · exact r
    · cases s.geo.positionOf _ with
      | none => exact r
      | some span => exact setDelay_only s span _
  · exact r

theorem setOperator_only (s : State) (x : Side) (p : OperatorPart) :
    onlyChanges requestReach s (s.setOperator x p) := by
  unfold State.setOperator
  exact onlyChanges_ite (onlyChanges_refl _ _) (changeLocal_only _ _ _)

theorem serveOperator_only (body : List Byte) (s : State) : onlyChanges requestReach s (serveOperator body s).1 := by
  have r := onlyChanges_refl requestReach s
  have hr : ∀ x, onlyChanges requestReach s (s.releaseSide x).1 := by
    intro x
    unfold State.releaseSide
    dsimp only
    split
    · exact changeLocal_only s x _
    · exact r
  have ho : ∀ x p, onlyChanges requestReach s (s.operate x p).1 := by
    intro x p
    unfold State.operate
    split
    · exact r
    · exact setOperator_only s x p
  unfold serveOperator
  split
  · split
    · exact hr _
    · exact ho _ _
    · exact r
  · exact r

/-- SETTINGS-READ changes nothing (R158). -/
theorem serveSettingsRead_state (body : List Byte) (s : State) : (serveSettingsRead body s).1 = s := by
  unfold serveSettingsRead
  split <;> rfl

/-- What an accepted SETTINGS-WRITE may touch. -/
abbrev settingsReach : List Block :=
  [.settings, .ring, .attention, .plan, .monitors, .requests, .protocol, .ports, .orders]

theorem storeSettings_only (s : State) (b : SettingsBody) :
    onlyChanges [.settings, .ring, .attention] s (s.storeSettings b) :=
  onlyChanges_chain (onlyChanges_chain (setSettings_only s _) (setRing_only _ _) (cs := [.settings, .ring, .attention])
    (by decide) (by decide)) (setAttention_only _ _) (by decide) (by decide)

theorem writeSettings_only (s : State) (b : SettingsBody) : onlyChanges settingsReach s (s.writeSettings b) := by
  have h1 := onlyChanges_mono (cs := settingsReach) (storeSettings_only s b) (by decide)
  have h2 : onlyChanges settingsReach s
      (if s.changesTransit b then (s.storeSettings b).trigger else s.storeSettings b) :=
    onlyChanges_ite (onlyChanges_trans h1 (onlyChanges_mono (trigger_only _) (by decide))) h1
  unfold State.writeSettings
  dsimp only
  exact onlyChanges_ite h2 (onlyChanges_trans h2
    (eachSide_only _ _ (fun x t => onlyChanges_mono (formRaw_only t x) (by decide)) (by decide)))

theorem serveSettingsWrite_only (body : List Byte) (s : State) :
    onlyChanges settingsReach s (serveSettingsWrite body s).1 := by
  have r := onlyChanges_refl settingsReach s
  unfold serveSettingsWrite
  cases parseSettings body with
  | none => exact r
  | some b =>
    dsimp only
    split
    · exact r
    · exact writeSettings_only s b

theorem serveFreeze_only (body : List Byte) (s : State) : onlyChanges [.fabric] s (serveFreeze body s).1 := by
  have r := onlyChanges_refl [.fabric] s
  unfold serveFreeze
  split
  · split
    · exact setFreezeFlag_only s _
    · exact setFreezeFlag_only s _
    · exact r
  · exact r

theorem armPart_only (s : State) : onlyChanges [.loader, .fabric, .plan, .attention] s s.armPart := by
  unfold State.armPart
  exact onlyChanges_ite (onlyChanges_refl _ _)
    (onlyChanges_chain (onlyChanges_chain (setLoader_only s _) (gateFormed_only _ _)
      (cs := [.loader, .fabric, .plan, .attention]) (by decide) (by decide)) (trigger_only _) (by decide) (by decide))

theorem serveArm_only (body : List Byte) (s : State) :
    onlyChanges [.loader, .fabric, .plan, .attention] s (serveArm body s).1 := by
  unfold serveArm
  split
  · exact armPart_only s
  · exact onlyChanges_refl _ _

/-- STATUS changes nothing (R157). -/
theorem serveStatus_state (body : List Byte) (s : State) : (serveStatus body s).1 = s := by
  unfold serveStatus
  split <;> rfl

/-- FAULT-READ changes nothing (R175). -/
theorem serveFaultRead_state (body : List Byte) (s : State) : (serveFaultRead body s).1 = s := by
  unfold serveFaultRead
  split
  · cases groupOfByte _ <;> rfl
  · rfl

theorem serveFaultClear_only (body : List Byte) (s : State) :
    onlyChanges [.attention] s (serveFaultClear body s).1 := by
  unfold serveFaultClear
  split
  · cases s.attention.cleared _ with
    | none => exact onlyChanges_refl _ _
    | some a => exact setAttention_only s a
  · exact onlyChanges_refl _ _

/-! ### The port's own operations -/

theorem deliver_only (s : State) (c : Instr) : onlyChanges [.mgmt] s (s.deliver c) :=
  onlyChanges_trans (setMgmt_only s _) (setMgmt_only _ _)

theorem answer_only (s : State) (code : Byte) (r : Reply) : onlyChanges [.mgmt] s (s.answer code r) := setMgmt_only s _

theorem showAnswer_only (s : State) : onlyChanges [.mgmt] s s.showAnswer := setMgmt_only s _

theorem notReadyWindow_only (s : State) (mdi : List Byte) :
    onlyChanges [.mgmt, .attention] s (s.notReadyWindow mdi) := by
  unfold State.notReadyWindow
  dsimp only
  exact onlyChanges_ite (onlyChanges_mono (setMgmt_only s _) (by decide))
    (onlyChanges_chain (setMgmt_only s _) (report_only _ _ _ _) (by decide) (by decide))

theorem corruptFrame_only (s : State) (c : Instr) : onlyChanges [.mgmt, .attention] s (s.corruptFrame c) :=
  onlyChanges_chain (onlyChanges_chain (deliver_only s c) (report_only _ _ _ _) (cs := [.mgmt, .attention]) (by decide)
    (by decide)) (answer_only _ _ _) (by decide) (by decide)

/-- A request in a ready port: the service of a good body, and the answer set in the slot (R153, R156). -/
theorem request_ready (s : State) (c : Instr) (code : Byte) (body : List Byte) (service : Service)
    (rdy : s.mgmt.rdy = true) (fits : body.length ≤ longestBody) (unlocked : s.locks code body = false) :
    s.request c code body service =
      (service body (s.deliver c)).1.answer code (service body (s.deliver c)).2 := by
  have hl : (s.deliver c).locks code body = false := unlocked
  have hn : ¬ longestBody < body.length := by omega
  simp [State.request, State.serve, rdy, hn, hl]

/-- The port after the answer to a request that left the port as delivery made it (R152, R153). -/
theorem answered_of_deliver (s t : State) (c : Instr) (code : Byte) (r : Reply)
    (h : t.mgmt = (s.deliver c).mgmt) : answered s (t.answer code r) code r.code r.body := by
  simp [answered, State.answer, State.setMgmt, h, State.deliver, State.showAnswer]

/-- A request that is served: what the block does to the delivered state, and what it answers, is what the command does and
answers. -/
theorem answers_of_service {i : Instr} {s u : State} {bs : List Block} {code : Byte} {body : List Byte}
    {service : Service} {r : Reply} {answer : State → List Byte} {effect : State → Prop}
    (run : exec i s = s.live fun t => t.request i code body service)
    (out : s.loader.load ≠ .noLoad) (rdy : s.mgmt.rdy = true) (fits : body.length ≤ longestBody)
    (unlocked : s.locks code body = false) (serve : service body (s.deliver i) = (u, r))
    (only : onlyChanges bs (s.deliver i) u) (port : u.mgmt = (s.deliver i).mgmt)
    (told : r.body = answer (u.answer code r)) (done : effect (u.answer code r)) :
    Answers i s bs code r.code answer effect := by
  refine ⟨u.answer code r, ?_, ?_, ?_, done⟩
  · have hr : s.inReset = false := by simp [State.inReset, out]
    rw [run, State.live, hr, request_ready s i code body service rdy fits unlocked, serve]
    rfl
  · exact onlyChanges_chain (onlyChanges_chain (deliver_only s i) only (cs := .mgmt :: bs) (by simp)
      (fun _ h => List.mem_cons_of_mem _ h)) (answer_only u code r) (fun _ h => h) (by simp)
  · rw [← told]; exact answered_of_deliver s u i code r port

/-- A request answered LOCKED (R156). -/
theorem answersOnly_of_locks {i : Instr} {s : State} {code : Byte} {body : List Byte} {service : Service}
    (run : exec i s = s.live fun t => t.request i code body service)
    (out : s.loader.load ≠ .noLoad) (rdy : s.mgmt.rdy = true) (fits : body.length ≤ longestBody)
    (locked : s.locks code body = true) : AnswersOnly i s code .locked [] := by
  have hr : s.inReset = false := by simp [State.inReset, out]
  have hl : (s.deliver i).locks code body = true := locked
  have hn : ¬ longestBody < body.length := by omega
  refine ⟨(s.deliver i).answer code (Reply.plain .locked), ?_, ?_, ?_, trivial⟩
  · rw [run, State.live, hr]
    simp [State.request, State.serve, rdy, hn, hl]
  · exact onlyChanges_trans (deliver_only s i) (answer_only _ _ _)
  · exact answered_of_deliver s (s.deliver i) i code (Reply.plain .locked) rfl

end Sys2Proof.Machine
end

