-- ==== Sys2Proof/Laws/Reads.lean ====
section
/-!
SUPPORT. What is read out of the state, over the replacement of a block that it does not read: one lemma for each, true by
unfolding.
-/

namespace Sys2Proof.Machine

@[simp] theorem State.setPins_geo (s : State) (x : Pins) : (s.setPins x).geo = s.geo := rfl
@[simp] theorem State.setLoader_geo (s : State) (x : Loader) : (s.setLoader x).geo = s.geo := rfl
@[simp] theorem State.setSettings_geo (s : State) (x : Settings) : (s.setSettings x).geo = s.geo := rfl
@[simp] theorem State.setTable_geo (s : State) (x : CircuitTable) : (s.setTable x).geo = s.geo := rfl
@[simp] theorem State.setMonitors_geo (s : State) (x : Pair Monitor) : (s.setMonitors x).geo = s.geo := rfl
@[simp] theorem State.setPorts_geo (s : State) (x : Pair Port) : (s.setPorts x).geo = s.geo := rfl
@[simp] theorem State.setRequests_geo (s : State) (x : RequestUnit) : (s.setRequests x).geo = s.geo := rfl
@[simp] theorem State.setProtocol_geo (s : State) (x : SwitchUnit) : (s.setProtocol x).geo = s.geo := rfl
@[simp] theorem State.setPlan_geo (s : State) (x : PlanEngine) : (s.setPlan x).geo = s.geo := rfl
@[simp] theorem State.setFabric_geo (s : State) (x : FabricPort) : (s.setFabric x).geo = s.geo := rfl
@[simp] theorem State.setMgmt_geo (s : State) (x : MgmtPort) : (s.setMgmt x).geo = s.geo := rfl
@[simp] theorem State.setAttention_geo (s : State) (x : Attention) : (s.setAttention x).geo = s.geo := rfl
@[simp] theorem State.setNow_geo (s : State) (x : Nat) : (s.setNow x).geo = s.geo := rfl
@[simp] theorem State.setOrders_geo (s : State) (x : Choices) : (s.setOrders x).geo = s.geo := rfl
@[simp] theorem State.setPending_geo (s : State) (x : List Instr) : (s.setPending x).geo = s.geo := rfl

@[simp] theorem State.setPins_inReset (s : State) (x : Pins) : (s.setPins x).inReset = s.inReset := rfl
@[simp] theorem State.setRing_inReset (s : State) (x : Option Ring) : (s.setRing x).inReset = s.inReset := rfl
@[simp] theorem State.setSettings_inReset (s : State) (x : Settings) : (s.setSettings x).inReset = s.inReset := rfl
@[simp] theorem State.setTable_inReset (s : State) (x : CircuitTable) : (s.setTable x).inReset = s.inReset := rfl
@[simp] theorem State.setMonitors_inReset (s : State) (x : Pair Monitor) : (s.setMonitors x).inReset = s.inReset := rfl
@[simp] theorem State.setPorts_inReset (s : State) (x : Pair Port) : (s.setPorts x).inReset = s.inReset := rfl
@[simp] theorem State.setRequests_inReset (s : State) (x : RequestUnit) : (s.setRequests x).inReset = s.inReset := rfl
@[simp] theorem State.setProtocol_inReset (s : State) (x : SwitchUnit) : (s.setProtocol x).inReset = s.inReset := rfl
@[simp] theorem State.setPlan_inReset (s : State) (x : PlanEngine) : (s.setPlan x).inReset = s.inReset := rfl
@[simp] theorem State.setFabric_inReset (s : State) (x : FabricPort) : (s.setFabric x).inReset = s.inReset := rfl
@[simp] theorem State.setMgmt_inReset (s : State) (x : MgmtPort) : (s.setMgmt x).inReset = s.inReset := rfl
@[simp] theorem State.setAttention_inReset (s : State) (x : Attention) : (s.setAttention x).inReset = s.inReset := rfl
@[simp] theorem State.setNow_inReset (s : State) (x : Nat) : (s.setNow x).inReset = s.inReset := rfl
@[simp] theorem State.setOrders_inReset (s : State) (x : Choices) : (s.setOrders x).inReset = s.inReset := rfl
@[simp] theorem State.setPending_inReset (s : State) (x : List Instr) : (s.setPending x).inReset = s.inReset := rfl

@[simp] theorem State.setPins_running (s : State) (x : Pins) : (s.setPins x).running = s.running := rfl
@[simp] theorem State.setRing_running (s : State) (x : Option Ring) : (s.setRing x).running = s.running := rfl
@[simp] theorem State.setSettings_running (s : State) (x : Settings) : (s.setSettings x).running = s.running := rfl
@[simp] theorem State.setTable_running (s : State) (x : CircuitTable) : (s.setTable x).running = s.running := rfl
@[simp] theorem State.setMonitors_running (s : State) (x : Pair Monitor) : (s.setMonitors x).running = s.running := rfl
@[simp] theorem State.setPorts_running (s : State) (x : Pair Port) : (s.setPorts x).running = s.running := rfl
@[simp] theorem State.setRequests_running (s : State) (x : RequestUnit) : (s.setRequests x).running = s.running := rfl
@[simp] theorem State.setProtocol_running (s : State) (x : SwitchUnit) : (s.setProtocol x).running = s.running := rfl
@[simp] theorem State.setPlan_running (s : State) (x : PlanEngine) : (s.setPlan x).running = s.running := rfl
@[simp] theorem State.setFabric_running (s : State) (x : FabricPort) : (s.setFabric x).running = s.running := rfl
@[simp] theorem State.setMgmt_running (s : State) (x : MgmtPort) : (s.setMgmt x).running = s.running := rfl
@[simp] theorem State.setAttention_running (s : State) (x : Attention) : (s.setAttention x).running = s.running := rfl
@[simp] theorem State.setNow_running (s : State) (x : Nat) : (s.setNow x).running = s.running := rfl
@[simp] theorem State.setOrders_running (s : State) (x : Choices) : (s.setOrders x).running = s.running := rfl
@[simp] theorem State.setPending_running (s : State) (x : List Instr) : (s.setPending x).running = s.running := rfl

@[simp] theorem State.setPins_sweeping (s : State) (x : Pins) : (s.setPins x).sweeping = s.sweeping := rfl
@[simp] theorem State.setLoader_sweeping (s : State) (x : Loader) : (s.setLoader x).sweeping = s.sweeping := rfl
@[simp] theorem State.setRing_sweeping (s : State) (x : Option Ring) : (s.setRing x).sweeping = s.sweeping := rfl
@[simp] theorem State.setSettings_sweeping (s : State) (x : Settings) : (s.setSettings x).sweeping = s.sweeping := rfl
@[simp] theorem State.setTable_sweeping (s : State) (x : CircuitTable) : (s.setTable x).sweeping = s.sweeping := rfl
@[simp] theorem State.setMonitors_sweeping (s : State) (x : Pair Monitor) : (s.setMonitors x).sweeping = s.sweeping := rfl
@[simp] theorem State.setPorts_sweeping (s : State) (x : Pair Port) : (s.setPorts x).sweeping = s.sweeping := rfl
@[simp] theorem State.setRequests_sweeping (s : State) (x : RequestUnit) : (s.setRequests x).sweeping = s.sweeping := rfl
@[simp] theorem State.setProtocol_sweeping (s : State) (x : SwitchUnit) : (s.setProtocol x).sweeping = s.sweeping := rfl
@[simp] theorem State.setFabric_sweeping (s : State) (x : FabricPort) : (s.setFabric x).sweeping = s.sweeping := rfl
@[simp] theorem State.setMgmt_sweeping (s : State) (x : MgmtPort) : (s.setMgmt x).sweeping = s.sweeping := rfl
@[simp] theorem State.setAttention_sweeping (s : State) (x : Attention) : (s.setAttention x).sweeping = s.sweeping := rfl
@[simp] theorem State.setNow_sweeping (s : State) (x : Nat) : (s.setNow x).sweeping = s.sweeping := rfl
@[simp] theorem State.setOrders_sweeping (s : State) (x : Choices) : (s.setOrders x).sweeping = s.sweeping := rfl
@[simp] theorem State.setPending_sweeping (s : State) (x : List Instr) : (s.setPending x).sweeping = s.sweeping := rfl

@[simp] theorem State.setLoader_frozen (s : State) (x : Loader) : (s.setLoader x).frozen = s.frozen := rfl
@[simp] theorem State.setRing_frozen (s : State) (x : Option Ring) : (s.setRing x).frozen = s.frozen := rfl
@[simp] theorem State.setSettings_frozen (s : State) (x : Settings) : (s.setSettings x).frozen = s.frozen := rfl
@[simp] theorem State.setTable_frozen (s : State) (x : CircuitTable) : (s.setTable x).frozen = s.frozen := rfl
@[simp] theorem State.setMonitors_frozen (s : State) (x : Pair Monitor) : (s.setMonitors x).frozen = s.frozen := rfl
@[simp] theorem State.setPorts_frozen (s : State) (x : Pair Port) : (s.setPorts x).frozen = s.frozen := rfl
@[simp] theorem State.setRequests_frozen (s : State) (x : RequestUnit) : (s.setRequests x).frozen = s.frozen := rfl
@[simp] theorem State.setProtocol_frozen (s : State) (x : SwitchUnit) : (s.setProtocol x).frozen = s.frozen := rfl
@[simp] theorem State.setPlan_frozen (s : State) (x : PlanEngine) : (s.setPlan x).frozen = s.frozen := rfl
@[simp] theorem State.setMgmt_frozen (s : State) (x : MgmtPort) : (s.setMgmt x).frozen = s.frozen := rfl
@[simp] theorem State.setAttention_frozen (s : State) (x : Attention) : (s.setAttention x).frozen = s.frozen := rfl
@[simp] theorem State.setNow_frozen (s : State) (x : Nat) : (s.setNow x).frozen = s.frozen := rfl
@[simp] theorem State.setOrders_frozen (s : State) (x : Choices) : (s.setOrders x).frozen = s.frozen := rfl
@[simp] theorem State.setPending_frozen (s : State) (x : List Instr) : (s.setPending x).frozen = s.frozen := rfl

@[simp] theorem State.setRing_gateOpen (s : State) (x : Option Ring) : (s.setRing x).gateOpen = s.gateOpen := rfl
@[simp] theorem State.setSettings_gateOpen (s : State) (x : Settings) : (s.setSettings x).gateOpen = s.gateOpen := rfl
@[simp] theorem State.setTable_gateOpen (s : State) (x : CircuitTable) : (s.setTable x).gateOpen = s.gateOpen := rfl
@[simp] theorem State.setMonitors_gateOpen (s : State) (x : Pair Monitor) : (s.setMonitors x).gateOpen = s.gateOpen := rfl
@[simp] theorem State.setPorts_gateOpen (s : State) (x : Pair Port) : (s.setPorts x).gateOpen = s.gateOpen := rfl
@[simp] theorem State.setRequests_gateOpen (s : State) (x : RequestUnit) : (s.setRequests x).gateOpen = s.gateOpen := rfl
@[simp] theorem State.setProtocol_gateOpen (s : State) (x : SwitchUnit) : (s.setProtocol x).gateOpen = s.gateOpen := rfl
@[simp] theorem State.setPlan_gateOpen (s : State) (x : PlanEngine) : (s.setPlan x).gateOpen = s.gateOpen := rfl
@[simp] theorem State.setMgmt_gateOpen (s : State) (x : MgmtPort) : (s.setMgmt x).gateOpen = s.gateOpen := rfl
@[simp] theorem State.setAttention_gateOpen (s : State) (x : Attention) : (s.setAttention x).gateOpen = s.gateOpen := rfl
@[simp] theorem State.setNow_gateOpen (s : State) (x : Nat) : (s.setNow x).gateOpen = s.gateOpen := rfl
@[simp] theorem State.setOrders_gateOpen (s : State) (x : Choices) : (s.setOrders x).gateOpen = s.gateOpen := rfl
@[simp] theorem State.setPending_gateOpen (s : State) (x : List Instr) : (s.setPending x).gateOpen = s.gateOpen := rfl

@[simp] theorem State.setPins_attn (s : State) (x : Pins) : (s.setPins x).attn = s.attn := rfl
@[simp] theorem State.setLoader_attn (s : State) (x : Loader) : (s.setLoader x).attn = s.attn := rfl
@[simp] theorem State.setRing_attn (s : State) (x : Option Ring) : (s.setRing x).attn = s.attn := rfl
@[simp] theorem State.setSettings_attn (s : State) (x : Settings) : (s.setSettings x).attn = s.attn := rfl
@[simp] theorem State.setTable_attn (s : State) (x : CircuitTable) : (s.setTable x).attn = s.attn := rfl
@[simp] theorem State.setMonitors_attn (s : State) (x : Pair Monitor) : (s.setMonitors x).attn = s.attn := rfl
@[simp] theorem State.setPorts_attn (s : State) (x : Pair Port) : (s.setPorts x).attn = s.attn := rfl
@[simp] theorem State.setRequests_attn (s : State) (x : RequestUnit) : (s.setRequests x).attn = s.attn := rfl
@[simp] theorem State.setProtocol_attn (s : State) (x : SwitchUnit) : (s.setProtocol x).attn = s.attn := rfl
@[simp] theorem State.setPlan_attn (s : State) (x : PlanEngine) : (s.setPlan x).attn = s.attn := rfl
@[simp] theorem State.setFabric_attn (s : State) (x : FabricPort) : (s.setFabric x).attn = s.attn := rfl
@[simp] theorem State.setMgmt_attn (s : State) (x : MgmtPort) : (s.setMgmt x).attn = s.attn := rfl
@[simp] theorem State.setNow_attn (s : State) (x : Nat) : (s.setNow x).attn = s.attn := rfl
@[simp] theorem State.setOrders_attn (s : State) (x : Choices) : (s.setOrders x).attn = s.attn := rfl
@[simp] theorem State.setPending_attn (s : State) (x : List Instr) : (s.setPending x).attn = s.attn := rfl

@[simp] theorem State.setPins_snapshot (s : State) (x : Pins) : (s.setPins x).snapshot = s.snapshot := rfl
@[simp] theorem State.setLoader_snapshot (s : State) (x : Loader) : (s.setLoader x).snapshot = s.snapshot := rfl
@[simp] theorem State.setSettings_snapshot (s : State) (x : Settings) : (s.setSettings x).snapshot = s.snapshot := rfl
@[simp] theorem State.setTable_snapshot (s : State) (x : CircuitTable) : (s.setTable x).snapshot = s.snapshot := rfl
@[simp] theorem State.setMonitors_snapshot (s : State) (x : Pair Monitor) : (s.setMonitors x).snapshot = s.snapshot := rfl
@[simp] theorem State.setPorts_snapshot (s : State) (x : Pair Port) : (s.setPorts x).snapshot = s.snapshot := rfl
@[simp] theorem State.setPlan_snapshot (s : State) (x : PlanEngine) : (s.setPlan x).snapshot = s.snapshot := rfl
@[simp] theorem State.setFabric_snapshot (s : State) (x : FabricPort) : (s.setFabric x).snapshot = s.snapshot := rfl
@[simp] theorem State.setMgmt_snapshot (s : State) (x : MgmtPort) : (s.setMgmt x).snapshot = s.snapshot := rfl
@[simp] theorem State.setAttention_snapshot (s : State) (x : Attention) : (s.setAttention x).snapshot = s.snapshot := rfl
@[simp] theorem State.setNow_snapshot (s : State) (x : Nat) : (s.setNow x).snapshot = s.snapshot := rfl
@[simp] theorem State.setOrders_snapshot (s : State) (x : Choices) : (s.setOrders x).snapshot = s.snapshot := rfl
@[simp] theorem State.setPending_snapshot (s : State) (x : List Instr) : (s.setPending x).snapshot = s.snapshot := rfl

@[simp] theorem State.setPins_hearing (s : State) (x : Pins) : (s.setPins x).hearing = s.hearing := rfl
@[simp] theorem State.setLoader_hearing (s : State) (x : Loader) : (s.setLoader x).hearing = s.hearing := rfl
@[simp] theorem State.setSettings_hearing (s : State) (x : Settings) : (s.setSettings x).hearing = s.hearing := rfl
@[simp] theorem State.setTable_hearing (s : State) (x : CircuitTable) : (s.setTable x).hearing = s.hearing := rfl
@[simp] theorem State.setMonitors_hearing (s : State) (x : Pair Monitor) : (s.setMonitors x).hearing = s.hearing := rfl
@[simp] theorem State.setRequests_hearing (s : State) (x : RequestUnit) : (s.setRequests x).hearing = s.hearing := rfl
@[simp] theorem State.setProtocol_hearing (s : State) (x : SwitchUnit) : (s.setProtocol x).hearing = s.hearing := rfl
@[simp] theorem State.setPlan_hearing (s : State) (x : PlanEngine) : (s.setPlan x).hearing = s.hearing := rfl
@[simp] theorem State.setFabric_hearing (s : State) (x : FabricPort) : (s.setFabric x).hearing = s.hearing := rfl
@[simp] theorem State.setMgmt_hearing (s : State) (x : MgmtPort) : (s.setMgmt x).hearing = s.hearing := rfl
@[simp] theorem State.setAttention_hearing (s : State) (x : Attention) : (s.setAttention x).hearing = s.hearing := rfl
@[simp] theorem State.setOrders_hearing (s : State) (x : Choices) : (s.setOrders x).hearing = s.hearing := rfl
@[simp] theorem State.setPending_hearing (s : State) (x : List Instr) : (s.setPending x).hearing = s.hearing := rfl

@[simp] theorem State.setLoader_rawLevel (s : State) (x : Loader) (y : Side) : (s.setLoader x).rawLevel y = s.rawLevel y := rfl
@[simp] theorem State.setRing_rawLevel (s : State) (x : Option Ring) (y : Side) : (s.setRing x).rawLevel y = s.rawLevel y := rfl
@[simp] theorem State.setTable_rawLevel (s : State) (x : CircuitTable) (y : Side) : (s.setTable x).rawLevel y = s.rawLevel y := rfl
@[simp] theorem State.setMonitors_rawLevel (s : State) (x : Pair Monitor) (y : Side) : (s.setMonitors x).rawLevel y = s.rawLevel y := rfl
@[simp] theorem State.setRequests_rawLevel (s : State) (x : RequestUnit) (y : Side) : (s.setRequests x).rawLevel y = s.rawLevel y := rfl
@[simp] theorem State.setProtocol_rawLevel (s : State) (x : SwitchUnit) (y : Side) : (s.setProtocol x).rawLevel y = s.rawLevel y := rfl
@[simp] theorem State.setPlan_rawLevel (s : State) (x : PlanEngine) (y : Side) : (s.setPlan x).rawLevel y = s.rawLevel y := rfl
@[simp] theorem State.setFabric_rawLevel (s : State) (x : FabricPort) (y : Side) : (s.setFabric x).rawLevel y = s.rawLevel y := rfl
@[simp] theorem State.setMgmt_rawLevel (s : State) (x : MgmtPort) (y : Side) : (s.setMgmt x).rawLevel y = s.rawLevel y := rfl
@[simp] theorem State.setAttention_rawLevel (s : State) (x : Attention) (y : Side) : (s.setAttention x).rawLevel y = s.rawLevel y := rfl
@[simp] theorem State.setNow_rawLevel (s : State) (x : Nat) (y : Side) : (s.setNow x).rawLevel y = s.rawLevel y := rfl
@[simp] theorem State.setOrders_rawLevel (s : State) (x : Choices) (y : Side) : (s.setOrders x).rawLevel y = s.rawLevel y := rfl
@[simp] theorem State.setPending_rawLevel (s : State) (x : List Instr) (y : Side) : (s.setPending x).rawLevel y = s.rawLevel y := rfl

@[simp] theorem State.setPins_due (s : State) (x : Pins) (t : Timer) : (s.setPins x).due t = s.due t := rfl
@[simp] theorem State.setLoader_due (s : State) (x : Loader) (t : Timer) : (s.setLoader x).due t = s.due t := rfl
@[simp] theorem State.setRing_due (s : State) (x : Option Ring) (t : Timer) : (s.setRing x).due t = s.due t := rfl
@[simp] theorem State.setSettings_due (s : State) (x : Settings) (t : Timer) : (s.setSettings x).due t = s.due t := rfl
@[simp] theorem State.setTable_due (s : State) (x : CircuitTable) (t : Timer) : (s.setTable x).due t = s.due t := rfl
@[simp] theorem State.setMonitors_due (s : State) (x : Pair Monitor) (t : Timer) : (s.setMonitors x).due t = s.due t := rfl
@[simp] theorem State.setPorts_due (s : State) (x : Pair Port) (t : Timer) : (s.setPorts x).due t = s.due t := rfl
@[simp] theorem State.setRequests_due (s : State) (x : RequestUnit) (t : Timer) : (s.setRequests x).due t = s.due t := rfl
@[simp] theorem State.setProtocol_due (s : State) (x : SwitchUnit) (t : Timer) : (s.setProtocol x).due t = s.due t := rfl
@[simp] theorem State.setPlan_due (s : State) (x : PlanEngine) (t : Timer) : (s.setPlan x).due t = s.due t := rfl
@[simp] theorem State.setFabric_due (s : State) (x : FabricPort) (t : Timer) : (s.setFabric x).due t = s.due t := rfl
@[simp] theorem State.setMgmt_due (s : State) (x : MgmtPort) (t : Timer) : (s.setMgmt x).due t = s.due t := rfl
@[simp] theorem State.setAttention_due (s : State) (x : Attention) (t : Timer) : (s.setAttention x).due t = s.due t := rfl
@[simp] theorem State.setOrders_due (s : State) (x : Choices) (t : Timer) : (s.setOrders x).due t = s.due t := rfl
@[simp] theorem State.setPending_due (s : State) (x : List Instr) (t : Timer) : (s.setPending x).due t = s.due t := rfl

/-! ### Timers that are due -/

@[simp] theorem State.due_none (s : State) : s.due none = false := rfl

@[simp] theorem State.due_some (s : State) (expiry : Nat) : s.due (some expiry) = decide (expiry ≤ s.now) := rfl

theorem State.due_iff (s : State) (t : Timer) : s.due t = true ↔ ∃ expiry, t = some expiry ∧ expiry ≤ s.now := by
  cases t <;> simp

theorem timerDue_iff (s : State) (t : Timer) : timerDue s t ↔ s.due t = true := (s.due_iff t).symm

theorem due_false_of_not {s : State} {t : Timer} (h : ¬timerDue s t) : s.due t = false := by
  rwa [timerDue_iff, Bool.not_eq_true] at h

/-- A timer started now for some periods is not due at once. -/
theorem State.not_due_after (s : State) {periods : Nat} (h : 0 < periods) : s.due (some (s.after periods)) = false := by
  simp [State.after]; omega

@[simp] theorem AnswerTimer.timer_running (expiry : Nat) : (AnswerTimer.running expiry).timer = some expiry := rfl
@[simp] theorem AnswerTimer.timer_stopped : AnswerTimer.stopped.timer = none := rfl
@[simp] theorem AnswerTimer.timer_expired : AnswerTimer.expired.timer = none := rfl

/-! ### Expiries that do not happen -/

theorem State.dimExpires_early {s : State} {x : Side} (h : s.due (s.monitors.get x).dimTimer = false) :
    s.dimExpires x = s := by simp [State.dimExpires, h]

theorem State.darkExpires_early {s : State} {x : Side} (h : s.due (s.monitors.get x).darkTimer = false) :
    s.darkExpires x = s := by simp [State.darkExpires, h]

theorem State.soakExpires_early {s : State} {x : Side} (h : s.due (s.monitors.get x).soakTimer = false) :
    s.soakExpires x = s := by simp [State.soakExpires, h]

theorem State.linkExpires_early {s : State} {x : Side} (h : s.due (s.ports.get x).downTimer = false) :
    s.linkExpires x = s := by simp [State.linkExpires, h]

theorem State.settleExpires_early {s : State} {x : Side} (h : s.due (s.requests.sides.get x).settleTimer = false) :
    s.settleExpires x = s := by simp [State.settleExpires, h]

theorem State.echoExpires_early {s : State} {x : Side} (h : s.due (s.requests.sides.get x).echoTimer = false) :
    s.echoExpires x = s := by simp [State.echoExpires, h]

theorem State.answerExpires_early {s : State} {x : Side} (h : s.due (s.protocol.sides.get x).answer.timer = false) :
    s.answerExpires x = s := by simp [State.answerExpires, h]

theorem State.fabricExpires_early {s : State} (h : ∀ flight, s.fabric.inFlight = some flight → s.now < flight.expiry) :
    s.fabricExpires = s := by
  unfold State.fabricExpires
  split
  · rfl
  · rename_i flight hf
    simp [State.reached, Nat.not_le.mpr (h flight hf)]

theorem State.byteTimesOut_early {s : State} (h : s.due s.loader.byteTimer = false) : s.byteTimesOut = s := by
  simp [State.byteTimesOut, h]

/-! ### Sweeps that run -/

/-- After a trigger a sweep runs, whatever stood before (R133, R136, R137). -/
theorem State.trigger_sweep_isSome (s : State) : s.trigger.plan.sweep.isSome = true := by
  unfold State.trigger
  split
  · rfl
  · rename_i h
    have hs : s.plan.sweep.isSome = true := by simpa [State.sweeping, Option.isSome_iff_ne_none] using h
    split
    · rfl
    · split <;> exact hs

end Sys2Proof.Machine
end

