-- ==== Sys2Proof/WellFormed.lean ====
section
/-!
DEFINITION. The commands that their rows stand for. A meaning is total on ill-formed commands too, and does with their
bytes what the port would (log entry 13); well-formedness says which of them a sender can send under that row's name.
-/

namespace Sys2Proof

open Sys2Proof.Machine

/-- A body that a good request frame can carry (R155, R165). -/
def bodyFits (body : List Byte) : Bool := decide (body.length ≤ longestBody)

/-- The action byte of a two-byte OPERATOR body is the row's own, or none of the four (R76, R167). -/
def operatorRow (body : List Byte) (action : Nat) : Bool :=
  match body with
  | [_, a] => a.toNat == action || decide (3 < a.toNat)
  | _ => true

/-- The action byte of a one-byte FREEZE body is the row's own, or neither of the two (R160, R167). -/
def freezeRow (body : List Byte) (action : Nat) : Bool :=
  match body with
  | [a] => a.toNat == action || decide (1 < a.toNat)
  | _ => true

/-- The flags byte of a three-byte WALK body is marked as the row says (R36, R166). -/
def walkRow (body : List Byte) (start : Bool) : Bool :=
  match body with
  | [_, _, flags] => bitOf flags 1 == start
  | _ => true

/-- A frame starts at the first 0 bit after idle fill (R164). -/
def startsFrame (frame : List Byte) : Bool :=
  match frame with
  | [] => false
  | first :: _ => decide (first.toNat < 128)

/-- The bytes and bits a window shifted in are a delivered request frame that is bad (R152, R155). -/
def badWindow (bytes : List Byte) (bits : Nat) : Bool :=
  !windowEmpty bytes && decide (bits < 8) && frameBad bytes bits

/-- A code that no request has, and that does not make the window empty (R152, R156). -/
def undefinedCode (code : Byte) : Bool := !requestCodes.contains code.toNat && code != 0xFF#8

/-- The command is one that its row stands for. -/
def Instr.wf (i : Instr) : Bool :=
  match i with
  | .powerOnReset => true
  | .pinReset => true
  | .resetRelease => true
  | .configByteRead _ => true
  | .readFailed => true
  | .configByteTimeout => true
  | .imageCheck => true
  | .status body => bodyFits body
  | .add body => bodyFits body
  | .edit body => bodyFits body
  | .retire body => bodyFits body
  | .read body => bodyFits body
  | .channelRead body => bodyFits body
  | .walkStart body => bodyFits body && walkRow body true
  | .walkContinue body => bodyFits body && walkRow body false
  | .spanRead body => bodyFits body
  | .spanDelay body => bodyFits body
  | .operatorBar body => bodyFits body && operatorRow body 3
  | .operatorForce body => bodyFits body && operatorRow body 2
  | .operatorAsk body => bodyFits body && operatorRow body 1
  | .release body => bodyFits body && operatorRow body 0
  | .settingsRead body => bodyFits body
  | .settingsWrite body => bodyFits body
  | .freezeSet body => bodyFits body && freezeRow body 1
  | .freezeClear body => bodyFits body && freezeRow body 0
  | .arm body => bodyFits body
  | .restart body => bodyFits body
  | .faultRead body => bodyFits body
  | .faultClear body => bodyFits body
  | .badFrame bytes bits => badWindow bytes bits
  | .unknownRequest code body => undefinedCode code && bodyFits body
  | .emptyWindow => true
  | .overrun _ => true
  | .receiverConditionChange _ _ _ _ => true
  | .dimTimerExpiry _ => true
  | .darkTimerExpiry _ => true
  | .soakExpiry _ => true
  | .noticePeriod => true
  | .ringNotice _ frame => startsFrame frame
  | .linkDown _ => true
  | .settleTimerExpiry _ => true
  | .echoHoldExpiry _ => true
  | .answerTimerExpiry _ => true
  | .sweepCompletion => true
  | .fabDone _ => true
  | .fabricTimeout => true
  | .freezePinChange _ => true

end Sys2Proof
end

