-- ==== Sys2Proof/Tests/Slice0.lean ====
section
/-!
SUPPORT. Our own tests: each check of WellFormed refuses an ill-formed term; for each command a step whose outcome the spec
gives in a rule or a worked table (the ring of Table 8, seen from node 33); and for each statement with hypotheses a state
and operands that meet them together.
-/

namespace Sys2Proof.Tests

open Sys2Proof.Machine

-- One theorem after another: each kernel evaluation would otherwise hold a thread of its own.
set_option Elab.async false

/-! ### States to start from -/

/-- The ring of Table 8: positions from node 33, delays of spans 0 to 5, node transit delay 2, ring tag 3. -/
def ring33 : Ring :=
  { ringTag := 3, style := .straight, positions := [33, 5, 21, 12, 40, 7], delays := [310, 420, 150, 600, 275, 500],
    transit := 2 }

/-- The timer whose expiry a command is. -/
def timerOf (s : State) : Instr → Timer
  | .dimTimerExpiry x => (s.monitors.get x).dimTimer
  | .darkTimerExpiry x => (s.monitors.get x).darkTimer
  | .soakExpiry x => (s.monitors.get x).soakTimer
  | .linkDown x => (s.ports.get x).downTimer
  | .settleTimerExpiry x => (s.requests.sides.get x).settleTimer
  | .echoHoldExpiry x => (s.requests.sides.get x).echoTimer
  | .answerTimerExpiry x => (s.protocol.sides.get x).answer.timer
  | .fabricTimeout => s.fabric.inFlight.map (·.expiry)
  | .configByteTimeout => s.loader.byteTimer
  | _ => none

/-- The state at the moment a command comes: an expiry comes when its timer has run. -/
def whenComes (s : State) (c : Instr) : State := s.setNow (max s.now ((timerOf s c).getD 0))

/-- The state after a command taken at once. -/
def atOnce (s : State) (c : Instr) : State := match exec c s with | .next t => t | _ => s

/-- The state after commands, each taken whole when it comes. -/
def after (s : State) (commands : List Instr) : State := commands.foldl (fun s c => atOnce (whenComes s c) c) s

/-- The same effect in every order of the takers: tests pass over the free choice. -/
def someOrders : Choices :=
  { given := List.replicate 64 { planFirst := true, westFirst := false, takers := .switchRequestLine }, taken := 0 }

/-- Node 33 as a load leaves it, its receivers good (LOCK set, GRADE 2), hold-off 3, clear soak 10, settle 300, DIM
threshold 6; no notice heard yet. -/
@[irreducible] def loaded : State :=
  let s := State.reset
  let s := s.setPins { receivers := ⟨⟨false, true, 2⟩, ⟨false, true, 2⟩⟩, freeze := false }
  let s := (s.setLoader { s.loader with
    load := .loaded, image := List.replicate 83 0
    bus := addressPhases ++ List.replicate 82 .acknowledge ++ [.noAcknowledge, .stop] }).setRing (some ring33)
  let s := s.setSettings { holdOff := 3, clearSoak := 10, settle := 300, dimThreshold := 6 }
  ((s.setMgmt { s.mgmt with rdy := true }).setOrders someOrders).startBlocks

/-- A notice of this ring. -/
def note (kind : Kind) (state : SideState) (origin target : Nat) : Notice :=
  { ringTag := 3, style := .straight, kind := kind, state := state, origin := origin, target := target }

/-- Three frames in a row of one notice on a link. -/
def hear (x : Side) (n : Notice) : List Instr := List.replicate 3 (.ringNotice x n.frame)

/-- Both links UP on the neighbours' QUIET notices. -/
@[irreducible] def linked : State := after loaded (hear .east (note .quiet .idle 5 33) ++ hear .west (note .quiet .idle 7 33))

/-- The answer in the answer slot, its bytes as numbers. -/
def answerOf (s : State) : Option (AnswerCode × List Nat) := s.mgmt.answerSlot.map fun a => (a.code, a.body.map (·.toNat))

/-- The body of an ADD (R166): direction, class and policy by their codes, no label. -/
def addBody (id channel source destination direction cls policy ceiling : Nat) : List Byte :=
  wordBytes id ++ [byteOf channel, byteOf source, byteOf destination, byteOf (direction * 64 + cls * 16 + policy * 4)]
    ++ wordBytes ceiling ++ [0]

/-- A record with no label. -/
def record (id channel source destination : Nat) (direction : Direction) (cls : CircuitClass) (ceiling : Nat)
    (policy : LatePolicy) : Circuit :=
  { id := id, channel := channel, source := source, destination := destination, direction := direction, cls := cls,
    ceiling := ceiling, policy := policy, label := none }

/-- The five records of Table 11. -/
def table11 : List Circuit :=
  [record 517 7 5 40 .east .prot 0 .restoreAnyway, record 610 7 5 40 .west .prot 0 .restoreAnyway,
   record 12 8 33 21 .east .prot 0 .restoreAnyway, record 13 8 12 7 .east .bare 0 .restoreAnyway,
   record 14 8 33 7 .west .prot 0 .restoreAnyway]

/-- The eight records of Table 30. -/
def table30 : List Circuit :=
  [record 517 7 5 40 .east .prot 3000 .squelchIfLate, record 12 8 33 21 .east .prot 0 .restoreAnyway,
   record 15 8 21 12 .east .prot 0 .restoreAnyway, record 13 8 12 7 .east .bare 0 .restoreAnyway,
   record 14 8 33 7 .west .prot 0 .restoreAnyway, record 520 9 12 40 .west .prot 3500 .restoreAnyway,
   record 530 10 5 33 .east .prot 4000 .restoreAnyway, record 44 47 33 5 .east .extra 0 .restoreAnyway]

/-- The part with records, and a plan and map committed for them. -/
@[irreducible] def stocked (s : State) (circuits : List Circuit) : State :=
  let s := s.setTable { circuits := circuits, cursor := none }
  after (s.setPlan { s.plan with sweep := some { snapshot := s.snapshot, channel := 0 } }) [.sweepCompletion]

/-- Node 33 with the records of Table 11, linked and with nothing under way. -/
@[irreducible] def node33 : State := stocked linked table11

/-- Side W of node 33 declared DARK, as in Tables 17 and 24, before the sweep for it completes. -/
@[irreducible] def cutWest : State := after linked [.receiverConditionChange .west true false 2, .darkTimerExpiry .west]

/-- Addresses 0 to 26 of an image: ring tag 3, STRAIGHT, the size, the self id, the id list (R169). -/
def imageHead (size self : Nat) (ids : List Nat) : List Byte :=
  [0x30#8, byteOf size, byteOf self] ++ (ids ++ List.replicate (24 - ids.length) 0).map byteOf

/-- Addresses 27 to 53: the delays of Table 8 as a list that starts at node 12 has them. -/
def imageMiddle : List Byte := [600, 275, 500, 310, 420, 150].flatMap wordBytes ++ List.replicate 15 0

/-- Addresses 54 to 80: node transit delay 2, hold-off 3, clear soak 10, DIM threshold 6, settle 300. -/
def imageTail : List Byte := List.replicate 21 0 ++ [2, 3, 10, 6] ++ wordBytes 300

/-- The image with a check code. -/
def imageOf (size self : Nat) (ids : List Nat) (check : Nat) : List Byte :=
  imageHead size self ids ++ (imageMiddle ++ (imageTail ++ wordBytes check))

/-- The ids of Table 8, the list starting at node 12. -/
def ids33 : List Nat := [12, 40, 7, 33, 5, 21]

/-- The check code of an image, worked out in three parts. -/
theorem crc_of_image {h : List Byte} {x y z : BitVec 16} {check : Nat} (length : h.length = 27)
    (hx : h.foldl crc16Byte 0xFFFF#16 = x) (hy : imageMiddle.foldl crc16Byte x = y)
    (hz : imageTail.foldl crc16Byte y = z) :
    crc16 ((h ++ (imageMiddle ++ (imageTail ++ wordBytes check))).take 81) = z.toNat := by
  have hm : imageMiddle.length = 27 := by decide +kernel
  have ht : imageTail.length = 27 := by decide +kernel
  simp [crc16, List.take_append, length, hm, ht, List.foldl_append, hx, hy, hz, List.take_of_length_le]

/-- The part in CHECKING with an image. -/
def checking (bytes : List Byte) : State :=
  let s := after (State.reset.setOrders someOrders) [.resetRelease]
  s.setLoader { s.loader with load := .checking, image := bytes, byteTimer := none }

/-! ### The well-formedness checks each refuse something -/

theorem test_wf_refuses_long_body : (Instr.status (List.replicate 41 0)).wf = false := by decide
theorem test_wf_refuses_other_action : (Instr.operatorBar [0, 2]).wf = false := by decide
theorem test_wf_refuses_other_freeze : (Instr.freezeSet [0]).wf = false := by decide
theorem test_wf_refuses_unmarked_walk : (Instr.walkStart [0, 79, 1]).wf = false := by decide
theorem test_wf_refuses_fill_for_frame : (Instr.ringNotice .east [0xFF]).wf = false := by decide
/-- 01h 00h 15h is a good STATUS frame: CRC-8 of 01h 00h is 15h. -/
theorem test_wf_refuses_good_frame : (Instr.badFrame [0x01, 0x00, 0x15] 0).wf = false := by decide +kernel
theorem test_wf_refuses_defined_code : (Instr.unknownRequest 0x10 []).wf = false := by decide

/-! ### Check codes (R163): the published check values of these two CRCs over "123456789" -/

theorem test_crc8_check_value :
    crc8 [0x31, 0x32, 0x33, 0x34, 0x35, 0x36, 0x37, 0x38, 0x39] = 0xF4 := by decide +kernel
theorem test_crc16_check_value :
    crc16 [0x31, 0x32, 0x33, 0x34, 0x35, 0x36, 0x37, 0x38, 0x39] = 0x29B1 := by decide +kernel

/-! ### The host asks with a word: no row of the table gives bits -/

theorem test_no_row_gives_bits : decodeTableWord 8 0x10 = none := by decide

/-! ### Resets and the identity load (R178 to R185) -/

theorem test_powerOnReset_empties_ring :
    (after linked [.powerOnReset]).ring = none ∧ (after linked [.powerOnReset]).mgmt.rdy = false := by decide +kernel
theorem test_pinReset_restores_settings : (after linked [.pinReset]).settings.holdOff = 0 := by decide +kernel
theorem test_resetRelease_starts_load :
    let s := after State.reset [.resetRelease]
    s.loader.load = .loading ∧ s.mgmt.rdy = true := by decide
/-- R179: start, device address 50h to write, byte address 00h, repeated start, device address 50h to read; then each byte
is acknowledged. -/
theorem test_configByteRead_is_acknowledged :
    (after State.reset [.resetRelease, .configByteRead 0x30]).loader.bus =
      [.start, .device 0x50 false, .byteAddress 0x00, .start, .device 0x50 true, .acknowledge] := by decide
theorem test_configByteRead_is_stored :
    (after State.reset [.resetRelease, .configByteRead 0x30]).loader.image = [0x30#8] := by decide
/-- The last byte has address 82. -/
theorem test_configByteRead_last :
    let s := after State.reset [.resetRelease]
    let t := s.setLoader { s.loader with image := List.replicate 82 0 }
    (after t [.configByteRead 1]).loader.load = .checking ∧
      (after t [.configByteRead 1]).loader.bus.drop 5 = [.noAcknowledge, .stop] := by decide +kernel
theorem test_readFailed_first_byte :
    (after State.reset [.resetRelease, .readFailed]).attention.records.load =
      some { kind := .readFailed, detail := 0 } := by decide
theorem test_configByteTimeout_names_address :
    (after State.reset [.resetRelease, .configByteRead 0x30, .configByteTimeout]).attention.records.load =
      some { kind := .readFailed, detail := 1 } := by decide
/-- The check codes of the images below were worked out by hand from R163. -/
theorem crc_of_image33 : crc16 ((imageOf 6 33 ids33 0xF14F).take 81) = 0xF14F :=
  crc_of_image (by decide +kernel) (x := 0x992D#16) (by decide +kernel) (y := 0xFD0C#16) (by decide +kernel)
    (z := 0xF14F#16) (by decide +kernel)
theorem crc_of_image_size2 : crc16 ((imageOf 2 33 ids33 0x9DB2).take 81) = 0x9DB2 :=
  crc_of_image (by decide +kernel) (x := 0x08EB#16) (by decide +kernel) (y := 0xE2BE#16) (by decide +kernel)
    (z := 0x9DB2#16) (by decide +kernel)
theorem crc_of_image_size25 : crc16 ((imageOf 25 33 ids33 0x06C4).take 81) = 0x06C4 :=
  crc_of_image (by decide +kernel) (x := 0xB89E#16) (by decide +kernel) (y := 0x2337#16) (by decide +kernel)
    (z := 0x06C4#16) (by decide +kernel)
theorem crc_of_image_missing : crc16 ((imageOf 6 34 ids33 0x8F31).take 81) = 0x8F31 :=
  crc_of_image (by decide +kernel) (x := 0x57F1#16) (by decide +kernel) (y := 0x70CC#16) (by decide +kernel)
    (z := 0x8F31#16) (by decide +kernel)
theorem crc_of_image_twice : crc16 ((imageOf 6 33 [33, 40, 7, 33, 5, 21] 0x2AE3).take 81) = 0x2AE3 :=
  crc_of_image (by decide +kernel) (x := 0x5ABD#16) (by decide +kernel) (y := 0xB420#16) (by decide +kernel)
    (z := 0x2AE3#16) (by decide +kernel)
theorem crc_of_image_repeated : crc16 ((imageOf 6 33 [12, 40, 7, 33, 5, 12] 0xD7E3).take 81) = 0xD7E3 :=
  crc_of_image (by decide +kernel) (x := 0xE751#16) (by decide +kernel) (y := 0x6C42#16) (by decide +kernel)
    (z := 0xD7E3#16) (by decide +kernel)

theorem image33_passes : imageFault (imageOf 6 33 ids33 0xF14F) = none := by
  unfold imageFault
  rw [crc_of_image33]
  decide +kernel

/-- The list rotated so that 33 comes first gives Table 8. -/
theorem test_imageCheck_loads_ring : (checking (imageOf 6 33 ids33 0xF14F)).checkImage.ring = some ring33 := by
  unfold State.checkImage
  rw [if_neg (by decide +kernel), show imageFault (checking (imageOf 6 33 ids33 0xF14F)).loader.image = none from
    image33_passes]
  decide +kernel
/-- The id at index 5 repeats that at index 0. -/
theorem test_imageCheck_repeated_id :
    imageFault (imageOf 6 33 [12, 40, 7, 33, 5, 12] 0xD7E3) = some (.duplicateId, 12) := by
  unfold imageFault
  rw [crc_of_image_repeated]
  decide +kernel

/-! ### Circuit Table (Tables 11 to 13) -/

/-- Table 12, step 2. -/
theorem test_add_clash_names_610 :
    answerOf (after node33 [.add (addBody 700 7 33 5 0 0 0 0)]) = some (.clash, [2, 98]) := by decide +kernel
/-- Table 12, steps 5, 7 and 8: start span west end 21, h 1, role NONE, the 20 characters truncated. -/
theorem test_add_15_truncates :
    answerOf (after node33 [.retire (wordBytes 610), .sweepCompletion,
      .add ((addBody 15 8 21 12 0 0 0 0).dropLast ++ 20 :: List.replicate 20 65)]) = some (.done, [0, 15, 21, 1, 3, 1]) := by
  decide +kernel
theorem test_edit_to_extra_refused :
    answerOf (after node33 [.edit [2, 5, 8, 0x20, 0, 0, 0]]) = some (.invalid, [6]) := by decide +kernel
theorem test_edit_ceiling_starts_sweep :
    let s := after node33 [.edit [2, 5, 4, 0, 0x0B, 0xB8, 0]]
    s.table.circuits.head?.map (·.ceiling) = some 3000 ∧ s.sweeping = true := by decide +kernel
/-- Table 12, step 5. -/
theorem test_retire_610 :
    let s := after node33 [.retire (wordBytes 610)]
    answerOf s = some (.done, [2, 98, 7]) ∧ s.sweeping = true ∧ s.table.circuits.length = 4 := by decide +kernel
/-- Section 1.9, step 3: working latency 4669 (12h, 3Dh), the plan byte CARRIED and pending. -/
theorem test_read_517_after_delay :
    answerOf (after node33 [.spanDelay [12, 0x14, 0x50], .read (wordBytes 517)]) =
      some (.done, [2, 5, 7, 5, 40, 0, 0, 0, 0, 1, 4, 5, 3, 3, 0x12, 0x3D, 0x11, 0, 0, 0]) := by decide +kernel
theorem test_read_absent : answerOf (after node33 [.read (wordBytes 15)]) = some (.absent, []) := by decide +kernel
/-- Span 0 of channel 7 is covered by 610, working latency 1089 (04h, 41h). -/
theorem test_channelRead_610 :
    answerOf (after node33 [.channelRead [7, 33]]) =
      some (.done, [0x80, 2, 98, 5, 40, 0x40, 3, 4, 0x41, 0x10, 0, 0, 0]) := by decide +kernel
/-- Span 2 is free on channel 8. -/
theorem test_channelRead_none : answerOf (after node33 [.channelRead [8, 21]]) = some (.done, [0]) := by decide +kernel
/-- Table 12, step 4: entries 517, 610, 12 and 13. -/
theorem test_walkStart_first_four :
    let s := after node33 [.walkStart [7, 8, 2]]
    ((answerOf s).map fun a => a.2.take 4) = some [0, 4, 2, 5] ∧
      s.table.cursor.map (·.place) = some (.mark 8 3) := by decide +kernel
/-- Table 12, step 9, without the ADD: entry 14 alone, end set. -/
theorem test_walkEntry_policy :
    (linked.walkEntry (record 517 7 5 40 .east .prot 3000 .squelchIfLate)).bytes .squelchIfLate =
      [0x02, 0x05, 7, 5, 40, 0x04, 0] := by decide +kernel
theorem test_walkContinue_end :
    answerOf (after node33 [.walkStart [7, 8, 2], .walkContinue [0, 0, 0]]) =
      some (.done, [8, 1, 0, 14, 8, 33, 7, 0x40, 0x10]) := by decide +kernel

/-! ### Ring Table, settings and the gate -/

theorem test_spanRead_span5 :
    answerOf (after linked [.spanRead [7]]) = some (.done, [7, 33, 7, 1, 0xF4, 6, 0x30, 2, 0, 0, 0]) := by decide +kernel
/-- Section 1.9, step 1: 5200 is stored as 4095. -/
theorem test_spanDelay_clamped :
    answerOf (after linked [.spanDelay [12, 0x14, 0x50]]) = some (.done, [12, 40, 0x0F, 0xFF, 1]) := by decide +kernel
theorem test_settingsRead :
    answerOf (after linked [.settingsRead []]) = some (.done, [3, 10, 1, 0x2C, 6, 2, 0x7F]) := by decide +kernel
/-- A hold-off of 200 is clamped to 100 and flagged; nothing else is given. -/
theorem test_settingsWrite_clamps :
    answerOf (after linked [.settingsWrite [0x20, 200, 0, 0, 0, 0, 0, 0]]) =
      some (.done, [100, 10, 1, 0x2C, 6, 2, 0x7F, 0x20, 0]) := by decide +kernel
theorem test_freezeSet_answer : answerOf (after linked [.freezeSet [1]]) = some (.done, [2]) := by decide +kernel
/-- Clearing the flag of an armed part opens the gate. -/
theorem test_freezeClear_opens :
    answerOf (after linked [.freezeSet [1], .arm [], .freezeClear [0]]) = some (.done, [1]) := by decide +kernel
theorem test_freezePin_closes_gate :
    (after linked [.arm [], .freezePinChange true]).gateOpen = false := by decide +kernel
theorem test_arm_answer : answerOf (after linked [.arm []]) = some (.done, [3]) := by decide +kernel
/-- A soft RESTART of a loaded part is answered LOADED, disarms it and drops the standing notices. -/
theorem test_restart_disarms :
    let s := after linked [.arm [], .restart []]
    answerOf s = some (.done, [2]) ∧ s.loader.armed = false ∧ (s.ports.get .east).standing = none := by decide +kernel

/-! ### Line Monitors (Table 17) -/

theorem test_receiver_cut_starts_timers :
    let m := (after linked [.receiverConditionChange .west true false 2]).monitors.get .west
    m.raw = .dark ∧ m.declared = .clear ∧ m.dimTimer = some 240 ∧ m.darkTimer = some 240 := by decide +kernel
/-- GRADE 9 with LOCK: the raw level is DIM and the soak starts. -/
theorem test_receiver_back_to_dim :
    let m := (after cutWest [.receiverConditionChange .west false true 9]).monitors.get .west
    m.raw = .dim ∧ m.declared = .dark ∧ m.soakTimer = some 80240 := by decide +kernel
theorem test_darkTimer_stops_dimTimer :
    let s := cutWest
    (s.monitors.get .west).declared = .dark ∧ (s.monitors.get .west).dimTimer = none := by decide +kernel
/-- The DIM timer taken first gives CLEAR to DIM (R47). -/
theorem test_dimTimer_declares_dim :
    let s := after linked [.receiverConditionChange .west true false 2, .dimTimerExpiry .west]
    (s.monitors.get .west).declared = .dim ∧ (s.requests.sides.get .west).line = .dim := by decide +kernel
/-- Table 24: the soak's end leaves a SETTLE of 300 s, the side being SWITCHED. -/
theorem test_soak_leaves_settle :
    let s := after cutWest [.receiverConditionChange .west false true 4, .soakExpiry .west]
    (s.requests.sides.get .west).line = .settle ∧
      (s.requests.sides.get .west).settleTimer = some 2480240 := by decide +kernel

/-! ### Supervisory links (Table 21) -/

theorem test_noticePeriod_sends_quiet :
    ((after linked [.noticePeriod]).ports.get .west).sent = some (note .quiet .idle 33 7) := by decide +kernel
/-- A content is believed only with its third frame. -/
theorem test_ringNotice_third_stands :
    let b := Instr.ringNotice .west (note .dark .idle 7 33).frame
    ((after linked [b, b]).ports.get .west).standing = some (note .quiet .idle 7 33) ∧
      ((after linked [b, b, b]).ports.get .west).standing = some (note .dark .idle 7 33) := by decide +kernel
/-- Positions 5 and 1 are not adjacent: MALFORMED, detail 7. -/
theorem test_ringNotice_malformed :
    (after linked [.ringNotice .west (note .dark .idle 7 5).frame]).attention.records.linkW =
      some { kind := .malformed, detail := 7 } := by decide +kernel
theorem test_linkDown_reports_origin :
    let s := after linked [.linkDown .west]
    (s.ports.get .west).link = .down ∧ s.attention.records.linkW = some { kind := .down, detail := 7 } ∧
      (s.monitors.get .west).raw = .dim := by decide +kernel

/-- R63, frame first: a good frame as the timer runs out restarts it, and the link stays UP. -/
theorem test_linkDown_frame_first :
    let s := atOnce (whenComes linked (.linkDown .west)) (.ringNotice .west (note .quiet .idle 7 33).frame)
    atOnce s (.linkDown .west) = s ∧ (s.ports.get .west).link = .up ∧ (s.ports.get .west).downTimer = some 48 := by
  decide +kernel

/-! ### Span requests (R76 to R81, Table 24) -/

theorem test_operatorBar_answer :
    let s := after linked [.operatorBar [0, 3]]
    answerOf s = some (.done, [0, 3, 6, 1, 0, 0, 0]) ∧ s.requests.role = .barred := by decide +kernel
/-- The undefined action code 4 is INVALID, VALUE. -/
theorem test_operator_undefined_action :
    answerOf (after linked [.operatorBar [0, 4]]) = some (.invalid, [8]) := by decide +kernel
theorem test_operatorForce_outranked_by_bar :
    answerOf (after linked [.operatorBar [0, 3], .operatorForce [1, 2]]) = some (.outranked, [33, 5, 6]) := by
  decide +kernel
/-- Table 54, step 2: FORCE on E is served and bridges. -/
theorem test_operatorForce_bridges :
    let s := after linked [.operatorForce [0, 2]]
    answerOf s = some (.done, [0, 2, 5, 1, 0, 0, 0]) ∧ (s.protocol.sides.get .east).decided = .bridged ∧
      s.plan.restarts = 1 := by decide +kernel
theorem test_operatorAsk_blocked_by_dark :
    answerOf (after cutWest [.operatorAsk [0, 1]]) = some (.outranked, [7, 33, 4]) := by decide +kernel
theorem test_operatorAsk_answer :
    answerOf (after linked [.operatorAsk [0, 1]]) = some (.done, [0, 1, 2, 1, 0, 0, 0]) := by decide +kernel
theorem test_release_absent : answerOf (after linked [.release [0, 0]]) = some (.absent, []) := by decide +kernel
theorem test_release_ends_bar :
    let s := after linked [.operatorBar [0, 3], .release [0, 0]]
    answerOf s = some (.done, [0, 0, 0, 0, 0, 0, 0]) ∧ s.requests.role = .idle := by decide +kernel
/-- Table 24 at t1 + 313 s: the end of the SETTLE leaves QUIET and IDLE. -/
theorem test_settleTimer_reverts :
    let s := after cutWest [.receiverConditionChange .west false true 4, .soakExpiry .west, .settleTimerExpiry .west]
    (s.requests.sides.get .west).line = .none ∧ s.requests.role = .idle := by decide +kernel

/-- Node 33 hears node 7 repeat its DARK; the fall to SETTLE sets link W aside. -/
@[irreducible] def echoed : State :=
  after cutWest (hear .west (note .dark .switched 7 33) ++ [.receiverConditionChange .west false true 4,
    .soakExpiry .west])

/-- Table 24 at t1 + 13 s: node 7's DARK is set aside; once the hold expires it counts again. -/
theorem test_echoHold_sets_aside :
    ((echoed.requests.records[5]?).map (·.kind)) = some .settle ∧
      (((after echoed [.echoHoldExpiry .west]).requests.records[5]?).map (·.kind)) = some .dark := by decide +kernel

/-! ### Switch Protocol Unit, plan and fabric (Tables 27, 32, 33, 36 and 37) -/

/-- Node 33 bridged for a DIM of span 0, its map presented: the FORCE of Table 54 with the gate open. -/
@[irreducible] def bridged : State := after linked [.arm [], .sweepCompletion, .fabDone 1, .operatorForce [0, 2], .sweepCompletion]

theorem test_fabDone_realises_bridge :
    let s := after bridged [.fabDone 2]
    (s.protocol.sides.get .east).realised = .bridged ∧ (s.protocol.sides.get .east).answer = .running 400 ∧
      s.fabric.inFlight = none := by decide +kernel
/-- R101: NO-ANSWER with the west end id of span 0. -/
theorem test_answerTimer_reports :
    (after bridged [.fabDone 2, .answerTimerExpiry .east]).attention.records.protocol =
      some { kind := .noAnswer, detail := 33 } := by decide +kernel
/-- Table 37, steps 3 and 4: the waiting map is presented under the next generation; a DONE of the old one is
disregarded. -/
theorem test_fabricTimeout_presents_waiting :
    let s := after bridged [.operatorForce [1, 2], .sweepCompletion, .fabricTimeout]
    s.fabric.generation = 3 ∧ s.attention.records.fabric = some { kind := .timeout, detail := 2 } ∧
      (after s [.fabDone 2]).fabric.inFlight = s.fabric.inFlight := by decide +kernel
/-- Table 37, step 5: the same map again under the same generation. -/
theorem test_fabricTimeout_presents_again :
    let s := after bridged [.fabricTimeout]
    s.fabric.generation = 2 ∧ s.fabric.presentations = 3 := by decide +kernel

/-- The snapshot of Table 32: span 2 DARK. -/
def span2Dark : Snapshot :=
  { served := [{ span := 2, kind := .dark }], knownDark := [2], delays := ring33.delays, transit := 2,
    decided := ⟨.idle, .idle⟩ }

theorem test_plan_of_table32 :
    table30.map (ring33.actionOf span2Dark) =
      [.squelched .late, .carried, .restored 5 2113 false, .carried, .carried, .restored 9 3626 true,
       .restored 9 3916 false, .preempted] := by decide +kernel
theorem test_plan_of_table33 :
    table30.map (ring33.actionOf { span2Dark with
      served := [{ span := 2, kind := .dark }, { span := 4, kind := .dark }], knownDark := [2, 4] }) =
      [.squelched .islands, .carried, .squelched .islands, .down, .carried, .outside, .restored 5 2158 false,
       .preempted] := by decide +kernel

/-- Side W cut with the records of Table 30, and the sweep for it complete. -/
@[irreducible] def switched33 : State :=
  after (stocked linked table30) [.receiverConditionChange .west true false 2, .darkTimerExpiry .west, .sweepCompletion]

/-- The third column of Table 36: out E 9, 48, 49 and 50, and the drops. -/
theorem test_sweepCompletion_builds_table36 :
    let m := switched33.fabric.committed.map (·.map)
    (m.map fun m => [9, 47, 48, 49, 50].map fun k => m.lines.east[k]?) =
        some [some (.turn 49), some .idle, some (.addCircuit 14), some (.turn 9), some (.addCircuit 530)] ∧
      (m.map (·.drops)) =
        some [⟨12, some (.east, 8)⟩, ⟨14, some (.east, 48)⟩, ⟨44, none⟩, ⟨530, some (.east, 50)⟩] := by decide +kernel
theorem test_sweepCompletion_raises_plan :
    switched33.attention.causes.plan = true ∧ switched33.plan.sweep = none := by decide +kernel

/-- R170: 323 + 4d bytes, out E 9 TURN 49 at bytes 20 and 21, and the drop entry of 44 with no source. -/
theorem test_presentation_bytes :
    (switched33.fabric.committed.map fun c => (c.map.bytes.length, (c.map.bytes.drop 20).take 2, (c.map.bytes.drop 331).take 4))
      = some (339, [0x30, 0x31], [0, 44, 0xFF, 0]) := by decide +kernel
/-- R165: the NOT-READY filler, its CRC-8 worked out by hand. -/
theorem test_filler_frame : Answer.filler.frame = [0x00, 0x0B, 0x00, 0x97] := by decide +kernel

/-! ### Management port and Attention Unit (R152 to R157, R172 to R176, Table 41) -/

/-- STATUS of the linked part: LOADED, both links UP on their QUIET notices, nothing served. -/
theorem test_status_layout :
    answerOf (after linked [.status []]) =
      some (.done, [2, 0, 0, 0, 0, 0, 0, 0, 0, 0, 0, 0, 0, 0, 0, 0, 0, 0, 0, 0xC0, 0x30, 5, 33, 0xC0, 0x30, 7, 33, 0]) := by
  decide +kernel
theorem test_status_locked_load :
    ((answerOf (after State.reset [.resetRelease, .readFailed, .status []])).map fun a => a.2.take 2) =
      some [3, 1] := by decide +kernel
theorem test_badFrame_corrupt :
    let s := after linked [.badFrame [0x01, 0x00, 0x16] 0]
    (s.mgmt.answerSlot.map fun a => (a.request, a.code)) = some (0x00#8, .corrupt) ∧
      s.attention.records.mgmt = some { kind := .badFrame, detail := 0 } := by decide +kernel
theorem test_unknownRequest_reported :
    let s := after linked [.unknownRequest 0x77 []]
    (s.mgmt.answerSlot.map fun a => (a.request, a.code)) = some (0x77#8, .unknown) ∧
      s.attention.records.mgmt = some { kind := .unknownRequest, detail := 0x77 } := by decide +kernel
/-- Table 41, step 4: the detail is the code of the lost SPAN-DELAY. -/
theorem test_overrun_detail :
    (after linked [.overrun [0x21, 0x03]]).attention.records.mgmt = some { kind := .overrun, detail := 0x21 } := by
  decide +kernel
/-- Table 41, step 6: an empty window carries the answer and leaves it. -/
theorem test_emptyWindow_carries_answer :
    let s := after linked [.settingsRead []]
    (after s [.emptyWindow]).mgmt = { s.mgmt with mdo := s.mgmt.answerSlot } := by decide +kernel
theorem test_faultRead_linkW :
    answerOf (after linked [.linkDown .west, .faultRead [1]]) = some (.done, [1, 7, 0, 7, 0]) := by decide +kernel
/-- Clearing the group lowers its flag and leaves more-faults set. -/
theorem test_faultClear_group :
    let s := after linked [.unknownRequest 0x77 [], .unknownRequest 0x78 [], .faultClear [4]]
    answerOf s = some (.done, [0, 1]) ∧ s.attn = false := by decide +kernel

/-! ### States that meet the hypotheses of the statements

Each theorem is named for the statement it serves, and gives a state and operands for each of its clauses, at a boundary of
the clause's range. -/

/-- What makes a record sound, as a computation; these records have no label. -/
def recordOk (r : Ring) (c : Circuit) : Bool :=
  decide (c.id ≤ 4095) && decide (c.channel ≤ 79) && (r.positionOf c.source).isSome && (r.positionOf c.destination).isSome &&
    c.source != c.destination && decide (c.cls = .extra ↔ 40 ≤ c.channel) && decide (c.ceiling ≤ 65535) && c.label.isNone

/-- What makes a table sound, as a computation. -/
def tableOk (r : Ring) (circuits : List Circuit) : Bool :=
  decide (circuits.length ≤ 2048) && circuits.all (recordOk r) && decide (circuits.map (·.id)).Nodup &&
    decide (circuits.Pairwise fun a b => r.chainBefore a b = true) &&
    decide (circuits.Pairwise fun a b => a.channel = b.channel → r.overlap (r.circuitRoute a) (r.circuitRoute b) = false)

theorem recordOk_sound {r : Ring} {c : Circuit} (h : recordOk r c = true) : c.sound r := by
  simp only [recordOk, Bool.and_eq_true, decide_eq_true_eq, bne_iff_ne, ne_eq, Option.isNone_iff_eq_none] at h
  obtain ⟨⟨⟨⟨⟨⟨⟨h1, h2⟩, h3⟩, h4⟩, h5⟩, h6⟩, h7⟩, h8⟩ := h
  exact ⟨h1, h2, h3, h4, h5, h6, h7, by simp [h8]⟩

theorem tableOk_sound {r : Ring} {circuits : List Circuit} (h : tableOk r circuits = true) : tableSound r circuits := by
  simp only [tableOk, Bool.and_eq_true, decide_eq_true_eq, List.all_eq_true] at h
  obtain ⟨⟨⟨⟨h1, h2⟩, h3⟩, h4⟩, h5⟩ := h
  exact ⟨h1, fun c hc => recordOk_sound (h2 c hc), h3, h4, h5⟩

theorem ring33_sound : ring33.sound := by unfold Ring.sound; decide +kernel

theorem tablesSound_of {s : State} (hr : s.ring = some ring33) (hl : s.loader.load = .loaded)
    (ht : tableOk ring33 s.table.circuits = true) (hk : s.table.cursor = none) : TablesSound s := by
  unfold TablesSound
  rw [hr]
  exact ⟨hl, ring33_sound, tableOk_sound ht, by simp [hk]⟩

theorem linked_tables : TablesSound linked :=
  tablesSound_of (by decide +kernel) (by decide +kernel) (by decide +kernel) (by decide +kernel)
theorem node33_tables : TablesSound node33 :=
  tablesSound_of (by decide +kernel) (by decide +kernel) (by decide +kernel) (by decide +kernel)
theorem cutWest_tables : TablesSound cutWest :=
  tablesSound_of (by decide +kernel) (by decide +kernel) (by decide +kernel) (by decide +kernel)

theorem linked_ready : hostReady linked := by unfold hostReady; decide +kernel
theorem node33_ready : hostReady node33 ∧ node33.sweeping = false ∧ node33.ring = some ring33 := by
  unfold hostReady; decide +kernel
theorem cutWest_ready : hostReady cutWest ∧ cutWest.sweeping = true := by unfold hostReady; decide +kernel

/-- No part that R74 or R80 would drop, on either side. -/
def sidesSettled (s : State) : Bool :=
  bothSides.all fun x =>
    let l := s.requests.sides.get x
    (l.line != .settle || (l.effective == .settle && s.geo.isServed s.requests.served x)) &&
      (l.operator != .ask || s.geo.isServed s.requests.served x) && (!l.settleTimer.isSome || l.line == .settle)

theorem requestsSettled_of {s : State} (hd : s.hearing.derivePass s.requests.sides = s.requests)
    (h : sidesSettled s = true) : RequestsSettled s := by
  simp only [sidesSettled, bothSides, List.all_cons, List.all_nil, Bool.and_true, Bool.and_eq_true, Bool.or_eq_true,
    bne_iff_ne, beq_iff_eq, Bool.not_eq_true', ne_eq] at h
  refine fun _ => ⟨hd, fun x => ?_⟩
  cases x
  · exact ⟨fun a => h.1.1.1.resolve_left (absurd a), fun a => h.1.1.2.resolve_left (absurd a),
      fun a => h.1.2.resolve_left (by simp [a])⟩
  · exact ⟨fun a => h.2.1.1.resolve_left (absurd a), fun a => h.2.1.2.resolve_left (absurd a),
      fun a => h.2.2.resolve_left (by simp [a])⟩

/-- Side W at SETTLE, its timer running and the far end's notices set aside (Table 24 at t1 + 13 s). -/
@[irreducible] def settling : State := echoed
/-- Side E barred by the operator. -/
@[irreducible] def barred : State := after linked [.operatorBar [0, 3]]
/-- An ASK on side E. -/
@[irreducible] def asking : State := after linked [.operatorAsk [0, 1]]

theorem linked_settled : RequestsSettled linked := requestsSettled_of (by decide +kernel) (by decide +kernel)
theorem cutWest_settled : RequestsSettled cutWest := requestsSettled_of (by decide +kernel) (by decide +kernel)
/-- What the statements ask of that state, worked out at once. -/
theorem settling_facts :
    (settling.hearing.derivePass settling.requests.sides = settling.requests ∧ sidesSettled settling = true) ∧
      (settling.ring = some ring33 ∧ settling.loader.load = .loaded ∧ tableOk ring33 settling.table.circuits = true ∧
        settling.table.cursor = none) ∧
      (settling.requests.sides.get .west).line = .settle ∧ (settling.requests.sides.get .west).settleTimer ≠ none ∧
      (settling.requests.sides.get .west).echo ≠ none ∧ settling.running = true ∧ settling.mgmt.rdy = true := by
  decide +kernel
theorem settling_settled : RequestsSettled settling := requestsSettled_of settling_facts.1.1 settling_facts.1.2
theorem settling_ready : hostReady settling ∧ portReady settling :=
  have h := settling_facts
  ⟨⟨h.2.1.2.1, h.2.2.2.2.2.2⟩, by simp [h.2.1.2.1], h.2.2.2.2.2.2⟩
theorem barred_settled : RequestsSettled barred := requestsSettled_of (by decide +kernel) (by decide +kernel)
theorem asking_settled : RequestsSettled asking := requestsSettled_of (by decide +kernel) (by decide +kernel)
theorem settling_tables : TablesSound settling :=
  have h := settling_facts.2.1
  tablesSound_of h.1 h.2.1 h.2.2.1 h.2.2.2
theorem barred_tables : TablesSound barred :=
  tablesSound_of (by decide +kernel) (by decide +kernel) (by decide +kernel) (by decide +kernel)
theorem asking_tables : TablesSound asking :=
  tablesSound_of (by decide +kernel) (by decide +kernel) (by decide +kernel) (by decide +kernel)

/-! The machine and the load. -/

theorem test_hyp_StepRunsFrontCommand : State.reset.pending = [] := rfl

theorem test_hyp_EveryCommandGoesOn :
    State.reset.loader.load = .noLoad ∧ Instr.status [] ≠ .powerOnReset ∧ Instr.status [] ≠ .pinReset ∧
      Instr.status [] ≠ .resetRelease ∧ Instr.status [] ≠ .noticePeriod ∧
      (∀ x los lock grade, Instr.status [] ≠ .receiverConditionChange x los lock grade) ∧
      ∀ b, Instr.status [] ≠ .freezePinChange b := by
  refine ⟨rfl, ?_, ?_, ?_, ?_, ?_, ?_⟩ <;> simp

theorem test_hyp_ResetsAndTheirRelease : State.reset.loader.load = .noLoad ∧ linked.loader.load ≠ .noLoad := by
  decide +kernel

/-- The first byte, the last byte, a part outside LOADING, and a byte timer before its moment and at it. -/
theorem test_hyp_ImageBytesAndReadFailures :
    let s := after State.reset [.resetRelease]
    let t := s.setLoader { s.loader with image := List.replicate 82 0 }
    let u := after State.reset [.resetRelease, .configByteRead 0x30]
    (s.loader.load = .loading ∧ s.loader.image.length = 0 ∧ t.loader.load = .loading ∧ t.loader.image.length = 82 ∧
      linked.loader.load ≠ .loading) ∧
    ¬timerDue u u.loader.byteTimer ∧
    timerDue (whenComes u .configByteTimeout) (whenComes u .configByteTimeout).loader.byteTimer ∧
      (whenComes u .configByteTimeout).loader.load = .loading := by
  simp only [timerDue_iff]
  decide +kernel

/-- One image for each check: a wrong code, sizes 2 and 25, the self id missing, twice, another id twice. -/
theorem test_hyp_FailingImageIsRefused :
    let at' (image : List Byte) (a : Nat) : Byte := image.getD a 0
    let ids (image : List Byte) (n : Nat) := (List.range n).map fun i => (at' image (3 + i)).toNat % 64
    let code (image : List Byte) := wordOf (at' image 81) (at' image 82)
    let wrong := imageOf 6 33 ids33 0xF14E
    let size2 := imageOf 2 33 ids33 0x9DB2
    let size25 := imageOf 25 33 ids33 0x06C4
    let missing := imageOf 6 34 ids33 0x8F31
    let twice := imageOf 6 33 [33, 40, 7, 33, 5, 21] 0x2AE3
    let repeated := imageOf 6 33 [12, 40, 7, 33, 5, 12] 0xD7E3
    (checking wrong).loader.load = .checking ∧ code wrong ≠ crc16 (wrong.take 81) ∧
    code size2 = crc16 (size2.take 81) ∧ (at' size2 1).toNat = 2 ∧
    code size25 = crc16 (size25.take 81) ∧ (at' size25 1).toNat = 25 ∧
    code missing = crc16 (missing.take 81) ∧ (at' missing 2).toNat % 64 ∉ ids missing 6 ∧
    code twice = crc16 (twice.take 81) ∧ (ids twice 6).count ((at' twice 2).toNat % 64) = 2 ∧
    code repeated = crc16 (repeated.take 81) ∧ (ids repeated 6)[5]? = some 12 ∧ 12 ∈ (ids repeated 6).take 5 ∧
      ((ids repeated 6).take 5).Nodup := by
  intro at' ids code wrong size2 size25 missing twice repeated
  have hw : crc16 (wrong.take 81) = 0xF14F := crc_of_image33
  have h1 : crc16 (size2.take 81) = _ := crc_of_image_size2
  have h2 : crc16 (size25.take 81) = _ := crc_of_image_size25
  have h3 : crc16 (missing.take 81) = _ := crc_of_image_missing
  have h4 : crc16 (twice.take 81) = _ := crc_of_image_twice
  have h5 : crc16 (repeated.take 81) = _ := crc_of_image_repeated
  rw [hw, h1, h2, h3, h4, h5]
  decide +kernel

theorem test_hyp_PassingImageLoads :
    let image := imageOf 6 33 ids33 0xF14F
    let at' (a : Nat) : Byte := image.getD a 0
    let n := (at' 1).toNat
    let ids := (List.range n).map fun i => (at' (3 + i)).toNat % 64
    (checking image).loader.load = .checking ∧ (checking image).loader.image = image ∧
      wordOf (at' 81) (at' 82) = crc16 (image.take 81) ∧ 3 ≤ n ∧ n ≤ 24 ∧ (at' 2).toNat % 64 ∈ ids ∧ ids.Nodup ∧
      at' 76 ≠ 0 ∧ ids[3]? = some ((at' 2).toNat % 64) := by
  intro image at' n ids
  have h : crc16 (image.take 81) = _ := crc_of_image33
  rw [h]
  decide +kernel

theorem test_hyp_ArmOpensTheGate :
    hostReady linked ∧ linked.loader.armed = false ∧ hostReady (after linked [.arm []]) ∧
      (after linked [.arm []]).loader.armed = true := by unfold hostReady; decide +kernel

/-- A loaded part with a hold-off, one with a hold-off of 0, and a part whose load failed. -/
theorem test_hyp_RestartClearsAndKeeps :
    let failed := after State.reset [.resetRelease, .readFailed]
    let at0 := after linked [.settingsWrite [0x20, 0, 0, 0, 0, 0, 0, 0]]
    portReady linked ∧ linked.loader.load = .loaded ∧ linked.settings.holdOff ≠ 0 ∧ portReady at0 ∧
      at0.loader.load = .loaded ∧ at0.settings.holdOff = 0 ∧ portReady failed ∧ failed.loader.load ≠ .loaded := by
  unfold portReady
  decide +kernel

/-! The Circuit Table. -/

/-- Circuit 15 of Table 12 with a label of 31 characters, on the one span free on channel 8. -/
theorem test_hyp_AddAccepted :
    let label := List.replicate 31 0x41#8
    let c : Circuit := { record 15 8 21 12 .east .prot 0 .restoreAnyway with label := some (label.take 16) }
    hostReady node33 ∧ node33.sweeping = false ∧ TablesSound node33 ∧ node33.ring = some ring33 ∧ c.sound ring33 ∧
      c.label = (if label = [] then none else some (label.take 16)) ∧ label.length ≤ 31 ∧
      (0x00#8).toNat / 64 = c.direction.code ∧ (0x00#8).toNat / 16 % 4 = c.cls.code ∧
      (0x00#8).toNat / 4 % 4 = c.policy.code ∧ (∀ d ∈ node33.table.circuits, d.id ≠ c.id) ∧
      (∀ d ∈ node33.table.circuits, d.channel = c.channel →
        ring33.overlap (ring33.circuitRoute d) (ring33.circuitRoute c) = false) ∧
      node33.table.circuits.length < 2048 := by
  intro label c
  refine ⟨node33_ready.1, node33_ready.2.1, node33_tables, node33_ready.2.2, ?_, rfl, by decide, rfl, rfl, rfl,
    by decide +kernel, by decide +kernel, by decide +kernel⟩
  refine ⟨by decide +kernel, by decide +kernel, by decide +kernel, by decide +kernel, by decide +kernel, by decide +kernel,
    by decide +kernel, ?_⟩
  intro bytes h
  obtain rfl : label.take 16 = bytes := Option.some.inj h
  decide

/-- Each check at the first value it refuses: id 4096, channel 80, source 64, one node twice, direction 2, class 3, policy
2, EXTRA on channel 39, id 517 again, a route over span 0 of channel 7, and 2048 records. -/
theorem test_hyp_AddRefusals :
    hostReady node33 ∧ node33.sweeping = false ∧ node33.ring = some ring33 ∧
      4095 < wordOf 0x10 0x00 ∧ ¬4095 < wordOf 0x0F 0xFF ∧ 79 < (80#8).toNat ∧ 63 < (64#8).toNat ∧
      ring33.positionOf 63 = none ∧ 1 < (0x80#8).toNat / 64 ∧ 2 < (0x30#8).toNat / 16 % 4 ∧ 1 < (0x08#8).toNat / 4 % 4 ∧
      ¬((0x20#8).toNat / 16 % 4 = 2 ↔ 40 ≤ (39#8).toNat) ∧ (∃ d ∈ node33.table.circuits, d.id = 517) ∧
      (∃ d ∈ node33.table.circuits, d.channel = 7 ∧
        ring33.overlap (ring33.circuitRoute d) (ring33.route 0 1 .east) = true) ∧
      (let full := node33.setTable { circuits := List.replicate 2048 (record 1 8 33 21 .east .prot 0 .restoreAnyway),
                                     cursor := none }
       hostReady full ∧ 2048 ≤ full.table.circuits.length ∧ ∀ d ∈ full.table.circuits, d.id ≠ 517 ∧ d.channel ≠ 7) := by
  refine ⟨node33_ready.1, node33_ready.2.1, node33_ready.2.2, by decide, by decide, by decide, by decide, by decide,
    by decide, by decide, by decide, by decide, by decide +kernel, by decide +kernel, node33_ready.1, ?_, ?_⟩
  · show 2048 ≤ (List.replicate 2048 (record 1 8 33 21 .east .prot 0 .restoreAnyway)).length
    exact Nat.le_of_eq List.length_replicate.symm
  · intro d hd
    obtain ⟨-, rfl⟩ := List.mem_replicate.mp hd
    decide

/-- Id 4096, class 3 given, no record 15, record 517 with a class it may take and one it may not. -/
theorem test_hyp_EditByGivenMarks :
    hostReady node33 ∧ node33.sweeping = false ∧ TablesSound node33 ∧ 4095 < wordOf 0x10 0x00 ∧
      ((0x08#8).toNat / 2 ^ 3 % 2 == 1) = true ∧ 2 < (0x30#8).toNat / 16 % 4 ∧
      (¬∃ c ∈ node33.table.circuits, c.id = 15) ∧
      ∃ c ∈ node33.table.circuits, c.id = wordOf 2 5 ∧ c.cls = .prot ∧ CircuitClass.bare.code = (0x10#8).toNat / 16 % 4 ∧
        CircuitClass.extra.code = (0x20#8).toNat / 16 % 4 :=
  ⟨node33_ready.1, node33_ready.2.1, node33_tables, by decide, by decide, by decide, by decide +kernel, by decide +kernel⟩

theorem test_hyp_RetireRemovesRecord :
    hostReady node33 ∧ node33.sweeping = false ∧ TablesSound node33 ∧ 4095 < wordOf 0x10 0x00 ∧
      (¬∃ c ∈ node33.table.circuits, c.id = 15) ∧ ∃ c ∈ node33.table.circuits, c.id = wordOf 2 5 :=
  ⟨node33_ready.1, node33_ready.2.1, node33_tables, by decide, by decide +kernel, by decide +kernel⟩

/-- Id 4096, no record 15, record 517 from position 1 to 4; channel 80, a west end off the ring, span 0 of channel 7, which
610 covers, and span 2 of channel 8, which none covers. -/
theorem test_hyp_LookupsAnswerRecords :
    hostReady node33 ∧ TablesSound node33 ∧ node33.ring = some ring33 ∧ 4095 < wordOf 0x10 0x00 ∧
      (¬∃ c ∈ node33.table.circuits, c.id = 15) ∧
      (∃ c ∈ node33.table.circuits, c.id = wordOf 2 5 ∧ ring33.positionOf c.source = some 1 ∧
        ring33.positionOf c.destination = some 4) ∧
      79 < (80#8).toNat ∧ ring33.positionOf ((34#8).toNat % 64) = none ∧ ring33.positionOf ((33#8).toNat % 64) = some 0 ∧
      (∃ c ∈ node33.table.circuits, c.channel = 7 ∧ ring33.covers (ring33.circuitRoute c) 0 = true) ∧
      ring33.positionOf ((21#8).toNat % 64) = some 2 ∧
      ∀ c ∈ node33.table.circuits, c.channel = 8 → ring33.covers (ring33.circuitRoute c) 2 = false :=
  ⟨node33_ready.1, node33_tables, node33_ready.2.2, by decide, by decide +kernel, by decide +kernel, by decide,
    by decide +kernel, by decide +kernel, by decide +kernel, by decide +kernel, by decide +kernel⟩

theorem test_hyp_WalkTakesEntries :
    hostReady node33 ∧ 79 < (80#8).toNat ∧ ¬(79 < (79#8).toNat ∨ (79#8).toNat < (79#8).toNat) :=
  ⟨node33_ready.1, by decide, by decide⟩

/-! The ring, the settings and the monitors. -/

theorem test_hyp_SpanReadAnswersSpan :
    hostReady linked ∧ linked.ring = some ring33 ∧ ring33.positionOf ((34#8).toNat % 64) = none ∧
      ring33.positionOf ((7#8).toNat % 64) = some 5 ∧ (linked.requests.records[5]?).isSome = true :=
  ⟨linked_ready, by decide +kernel, by decide +kernel, by decide +kernel, by decide +kernel⟩

theorem test_hyp_SpanDelayIsStored :
    let failed := after State.reset [.resetRelease, .readFailed]
    portReady failed ∧ failed.loader.load ≠ .loaded ∧ portReady cutWest ∧ cutWest.loader.load = .loaded ∧
      cutWest.sweeping = true ∧ portReady node33 ∧ node33.loader.load = .loaded ∧ node33.sweeping = false ∧
      node33.ring = some ring33 ∧ ring33.positionOf ((34#8).toNat % 64) = none ∧
      ring33.positionOf ((12#8).toNat % 64) = some 3 := by unfold portReady; decide +kernel

/-- The DIM threshold not given, given as it stands, and given anew. -/
theorem test_hyp_SettingsReadAndWrite :
    hostReady node33 ∧ node33.sweeping = false ∧ node33.ring = some ring33 ∧
      max 1 (min (6#8).toNat 15) = node33.settings.dimThreshold ∧
      max 1 (min (0#8).toNat 15) ≠ node33.settings.dimThreshold :=
  ⟨node33_ready.1, node33_ready.2.1, node33_ready.2.2, by decide +kernel, by decide +kernel⟩

/-- A part loaded with hold-off 0: both lines declared DIM at once, then CLEAR with the links UP. -/
@[irreducible] def quick : State :=
  after ((after loaded [.settingsWrite [0x20, 0, 0, 0, 0, 0, 0, 0], .restart []]).setOrders someOrders)
    (hear .east (note .quiet .idle 5 33) ++ hear .west (note .quiet .idle 7 33) ++ [.soakExpiry .east, .soakExpiry .west])

theorem test_hyp_ReceiverChangeFormsRaw :
    State.reset.loader.load ≠ .loaded ∧ linked.loader.load = .loaded ∧ (linked.monitors.get .west).raw = .clear ∧
      linked.settings.holdOff ≠ 0 ∧ quick.loader.load = .loaded ∧ quick.settings.holdOff = 0 ∧
      (quick.monitors.get .west).declared.code < Level.dark.code ∧ (quick.monitors.get .west).dimTimer = none := by
  decide +kernel

/-- The line cut: both hold-off timers run. -/
@[irreducible] def darkening : State := after linked [.receiverConditionChange .west true false 2]
/-- The line back at DIM, and at CLEAR, with the side SWITCHED. -/
@[irreducible] def repairedDim : State := after cutWest [.receiverConditionChange .west false true 9]
@[irreducible] def repairedClear : State := after cutWest [.receiverConditionChange .west false true 4]
/-- The line back at CLEAR with the ring barred: the side is IDLE. -/
@[irreducible] def repairedBarred : State := after cutWest [.operatorBar [0, 3], .receiverConditionChange .west false true 4]

theorem monitorsSound_of {s : State} (h : ∀ x : Side,
    if s.running then (s.monitors.get x).raw = s.rawLevel x ∧
      ((s.monitors.get x).dimTimer.isSome = true ↔ (s.monitors.get x).raw ≠ .clear ∧ (s.monitors.get x).declared = .clear) ∧
      ((s.monitors.get x).darkTimer.isSome = true ↔ (s.monitors.get x).raw = .dark ∧ (s.monitors.get x).declared ≠ .dark) ∧
      ((s.monitors.get x).soakTimer.isSome = true ↔ (s.monitors.get x).raw.code < (s.monitors.get x).declared.code)
    else s.monitors.get x = Monitor.held) : MonitorsSound s := h

theorem linked_monitors : MonitorsSound linked := monitorsSound_of (by intro x; cases x <;> decide +kernel)
theorem darkening_monitors : MonitorsSound darkening := monitorsSound_of (by intro x; cases x <;> decide +kernel)
theorem repairedDim_monitors : MonitorsSound repairedDim := monitorsSound_of (by intro x; cases x <;> decide +kernel)
theorem repairedClear_monitors : MonitorsSound repairedClear := monitorsSound_of (by intro x; cases x <;> decide +kernel)
theorem repairedBarred_monitors : MonitorsSound repairedBarred := monitorsSound_of (by intro x; cases x <;> decide +kernel)

/-- Stopped timers and timers before their moment; hold-off timers at theirs; and the soak's end at DIM, at CLEAR with a
SETTLE that stands and one that a FORCE on the side outranks, and at CLEAR on a side that is IDLE. -/
theorem test_hyp_MonitorTimersExpire :
    let soaked (s : State) := whenComes s (.soakExpiry .west)
    let ends (s : State) : Prop := s.running = true ∧ s.due (s.monitors.get .west).soakTimer = true
    let forced := after cutWest [.operatorForce [1, 2], .receiverConditionChange .west false true 4]
    let held (s : State) : LocalRequest :=
      { s.requests.sides.get .west with line := .settle, settleTimer := some (s.now + 2400000) }
    let first (s : State) := s.hearing.derivePass
      (s.requests.sides.set .west { held s with echo := s.hearing.startEcho .west })
    (linked.running = true ∧ MonitorsSound linked ∧ (linked.monitors.get .west).dimTimer = none ∧
      (linked.monitors.get .west).darkTimer = none ∧ (linked.monitors.get .west).soakTimer = none) ∧
    (darkening.running = true ∧ MonitorsSound darkening ∧ ¬timerDue darkening (darkening.monitors.get .west).dimTimer) ∧
    (let s := whenComes darkening (.darkTimerExpiry .west)
     s.running = true ∧ MonitorsSound s ∧ timerDue s (s.monitors.get .west).dimTimer ∧
       timerDue s (s.monitors.get .west).darkTimer) ∧
    (MonitorsSound (soaked repairedDim) ∧ ends (soaked repairedDim) ∧ (repairedDim.monitors.get .west).raw = .dim) ∧
    (MonitorsSound (soaked repairedClear) ∧ ends (soaked repairedClear) ∧ (repairedClear.monitors.get .west).raw = .clear ∧
      (repairedClear.protocol.sides.get .west).decided ≠ .idle ∧ repairedClear.settings.settle = 300 ∧
      (repairedClear.requests.sides.get .west).operator = .none ∧
      ∃ e ∈ (first (soaked repairedClear)).served, e.span = repairedClear.geo.facing .west) ∧
    (MonitorsSound (soaked forced) ∧ ends (soaked forced) ∧ (forced.monitors.get .west).raw = .clear ∧
      (forced.protocol.sides.get .west).decided ≠ .idle ∧ (forced.requests.sides.get .west).operator ≠ .none) ∧
    MonitorsSound (soaked repairedBarred) ∧ ends (soaked repairedBarred) ∧
      (repairedBarred.monitors.get .west).raw = .clear ∧ (repairedBarred.protocol.sides.get .west).decided = .idle := by
  simp only [timerDue_iff]
  exact ⟨⟨by decide +kernel, linked_monitors, by decide +kernel, by decide +kernel, by decide +kernel⟩,
    ⟨by decide +kernel, darkening_monitors, by decide +kernel⟩,
    ⟨by decide +kernel, monitorsSound_of (by intro x; cases x <;> decide +kernel), by decide +kernel⟩,
    ⟨monitorsSound_of (by intro x; cases x <;> decide +kernel), by decide +kernel⟩,
    ⟨monitorsSound_of (by intro x; cases x <;> decide +kernel), by decide +kernel⟩,
    ⟨monitorsSound_of (by intro x; cases x <;> decide +kernel), by decide +kernel⟩,
    monitorsSound_of (by intro x; cases x <;> decide +kernel), by decide +kernel⟩

/-! The links. -/

/-- A frame of two bytes, and frames that fail one check after another: the code, the ring tag 4, the style CROSSED, node 34,
positions 5 and 1, the node's own id, kind 7, state 3. -/
theorem test_hyp_BadFramesAreDiscarded :
    State.reset.loader.load ≠ .loaded ∧ linked.loader.load = .loaded ∧
      (∀ b1 b2 b3 c1 c0 : Byte, ∀ rest, ([0x4E, 0x30] : List Byte) ≠ 0x4E#8 :: b1 :: b2 :: b3 :: c1 :: c0 :: 0x72#8 :: rest) ∧
      (note .quiet .idle 7 33).frame.length = 7 ∧ wordOf 0 0 ≠ crc16 [0x30, 0x07, 0x21] ∧
      (0x40#8).toNat / 16 ≠ linked.geo.ringTag ∧ (0x38#8).toNat / 8 % 2 ≠ linked.geo.style.code ∧
      linked.geo.positionOf ((0x22#8).toNat % 64) = none ∧
      linked.geo.positionOf 7 = some 5 ∧ linked.geo.positionOf 5 = some 1 ∧ linked.geo.size = 6 ∧
      (0x21#8).toNat % 64 = linked.geo.selfId ∧ (0x37#8).toNat % 8 = 7 ∧ (0xC7#8).toNat / 64 = 3 := by
  refine ⟨by decide +kernel, by decide +kernel, by simp, ?_⟩
  decide +kernel

theorem linksSound_of {s : State} (h : ∀ x : Side,
    ((s.ports.get x).link = .up ↔ (s.ports.get x).standing.isSome = true) ∧
    ((s.ports.get x).link = .up ↔ (s.ports.get x).downTimer.isSome = true) ∧
    ((s.ports.get x).run.all fun r => decide (1 ≤ r.count ∧ r.count ≤ 3)) = true) : LinksSound s := by
  intro x
  refine ⟨(h x).1, (h x).2.1, fun run hr => ?_⟩
  simpa [hr] using (h x).2.2

theorem linked_links : LinksSound linked := linksSound_of (by intro x; cases x <;> decide +kernel)

/-- A first frame of a new content, and the third. -/
@[irreducible] def heardTwice : State := after linked (List.replicate 2 (.ringNotice .west (note .dark .idle 7 33).frame))

theorem test_hyp_GoodFramesBuildStanding :
    let n := note .dark .idle 7 33
    (linked.running = true ∧ TablesSound linked ∧ LinksSound linked ∧ n.ringTag = linked.geo.ringTag ∧
      n.style = linked.geo.style ∧ linked.geo.spanOf n ≠ none ∧ n.origin ≠ linked.geo.selfId ∧
      ([] : List Byte).headD 0xFF#8 = 0xFF#8) ∧
    heardTwice.running = true ∧ TablesSound heardTwice ∧ LinksSound heardTwice ∧
      (heardTwice.ports.get .west).run = some { candidate := n, count := 2 } ∧
      (heardTwice.ports.get .west).standing = some (note .quiet .idle 7 33) ∧
      (note .quiet .idle 7 33).sameContent n = false :=
  ⟨⟨by decide +kernel, linked_tables, linked_links, by decide +kernel, by decide +kernel, by decide +kernel, by decide +kernel,
    rfl⟩, by decide +kernel,
    tablesSound_of (by decide +kernel) (by decide +kernel) (by decide +kernel) (by decide +kernel),
    linksSound_of (by intro x; cases x <;> decide +kernel), by decide +kernel, by decide +kernel, by decide +kernel⟩

/-- A stopped timer, one before its moment, and an UP link whose timer has run with its record clear and occupied. -/
theorem test_hyp_LinkGoesDown :
    let ended := whenComes linked (.linkDown .west)
    let occupied := whenComes (after linked [.ringNotice .west [0x00]]) (.linkDown .west)
    (loaded.loader.load ≠ .noLoad ∧ (loaded.ports.get .west).downTimer = none) ∧
    ¬timerDue linked (linked.ports.get .west).downTimer ∧
    (timerDue ended (ended.ports.get .west).downTimer ∧ (ended.ports.get .west).standing = some (note .quiet .idle 7 33) ∧
      ended.attention.records.ofGroup .linkW = none ∧ ended.running = true ∧ (ended.ports.get .west).link = .up) ∧
    timerDue occupied (occupied.ports.get .west).downTimer ∧ (occupied.ports.get .west).standing.isSome = true ∧
      occupied.attention.records.ofGroup .linkW ≠ none := by
  simp only [timerDue_iff]
  decide +kernel

theorem test_hyp_NoticesSentAreAccepted :
    let n := note .bar .switched 7 33
    ring33.sound ∧ n.ringTag = ring33.ringTag ∧ n.style = ring33.style ∧ ring33.spanOf n ≠ none ∧
      n.origin ≠ ring33.selfId ∧ ([0xFF] : List Byte).headD 0xFF#8 = 0xFF#8 :=
  ⟨ring33_sound, by decide +kernel, by decide +kernel, by decide +kernel, by decide +kernel, rfl⟩

/-! The Request Unit. -/

theorem test_hyp_BarLocksTheRing :
    (hostReady linked ∧ TablesSound linked ∧ RequestsSettled linked) ∧
    hostReady barred ∧ TablesSound barred ∧ RequestsSettled barred ∧ (barred.requests.sides.get .east).operator = .bar :=
  ⟨⟨linked_ready, linked_tables, linked_settled⟩, by unfold hostReady; decide +kernel, barred_tables, barred_settled,
    by decide +kernel⟩

theorem test_hyp_ForceUnlessBarred :
    (hostReady barred ∧ TablesSound barred ∧ RequestsSettled barred ∧ ∃ e ∈ barred.requests.served, e.kind = .bar) ∧
    hostReady cutWest ∧ TablesSound cutWest ∧ RequestsSettled cutWest ∧ ∀ e ∈ cutWest.requests.served, e.kind ≠ .bar :=
  ⟨⟨by unfold hostReady; decide +kernel, barred_tables, barred_settled, by decide +kernel⟩, cutWest_ready.1,
    cutWest_tables, cutWest_settled, by decide +kernel⟩

/-- DARK on span 5 blocks an ASK on side E; nothing blocks it on a quiet ring, nor where it stands already. -/
theorem test_hyp_AskUnlessOutranked :
    (hostReady cutWest ∧ TablesSound cutWest ∧ RequestsSettled cutWest ∧
      ∃ e ∈ cutWest.requests.served, 2 ≤ e.kind.code ∧ e.span ≠ cutWest.geo.facing .east) ∧
    (hostReady linked ∧ TablesSound linked ∧ RequestsSettled linked ∧ linked.requests.served = [] ∧
      (linked.requests.sides.get .east).operator = .none ∧ (linked.requests.sides.get .east).line ≠ .settle) ∧
    hostReady asking ∧ TablesSound asking ∧ RequestsSettled asking ∧
      (∀ e ∈ asking.requests.served, ¬(2 ≤ e.kind.code ∧ e.span ≠ asking.geo.facing .east)) ∧
      (asking.requests.sides.get .east).operator = .ask :=
  ⟨⟨cutWest_ready.1, cutWest_tables, cutWest_settled, by decide +kernel⟩,
    ⟨linked_ready, linked_tables, linked_settled, by decide +kernel, by decide +kernel, by decide +kernel⟩,
    by unfold hostReady; decide +kernel, asking_tables, asking_settled, by decide +kernel, by decide +kernel⟩

theorem test_hyp_ReleaseClearsTheSide :
    (hostReady linked ∧ TablesSound linked ∧ RequestsSettled linked ∧
      (linked.requests.sides.get .east).operator = .none ∧ (linked.requests.sides.get .east).line ≠ .settle) ∧
    (hostReady barred ∧ TablesSound barred ∧ RequestsSettled barred ∧
      (barred.requests.sides.get .east).operator ≠ .none) ∧
    hostReady settling ∧ TablesSound settling ∧ RequestsSettled settling ∧
      (settling.requests.sides.get .west).line = .settle :=
  ⟨⟨linked_ready, linked_tables, linked_settled, by decide +kernel, by decide +kernel⟩,
    ⟨by unfold hostReady; decide +kernel, barred_tables, barred_settled, by decide +kernel⟩,
    settling_ready.1, settling_tables, settling_settled, settling_facts.2.2.1⟩

/-- What the statements of the Request Unit ask of a LOADED part of node 33, worked out at once. -/
def settledTest (s : State) : Bool :=
  decide (s.hearing.derivePass s.requests.sides = s.requests) && sidesSettled s && decide (s.ring = some ring33) &&
    decide (s.loader.load = .loaded) && tableOk ring33 s.table.circuits && decide (s.table.cursor = none) && s.running

theorem settledTest_sound {s : State} (h : settledTest s = true) :
    s.running = true ∧ TablesSound s ∧ RequestsSettled s := by
  simp only [settledTest, Bool.and_eq_true, decide_eq_true_eq] at h
  exact ⟨h.2, tablesSound_of h.1.1.1.1.2 h.1.1.1.2 h.1.1.2 h.1.2, requestsSettled_of h.1.1.1.1.1.1 h.1.1.1.1.1.2⟩

/-- The same state at the moment of its settle timer, and at that of its echo hold. -/
@[irreducible] def settleEnds : State := whenComes settling (.settleTimerExpiry .west)
@[irreducible] def echoEnds : State := whenComes settling (.echoHoldExpiry .west)

theorem settling_timers :
    (settledTest linked = true ∧ (linked.requests.sides.get .west).settleTimer = none ∧
      (linked.requests.sides.get .west).echo = none) ∧
    (settling.due (settling.requests.sides.get .west).settleTimer = false ∧
      settling.due ((settling.requests.sides.get .west).echo.map (·.expiry)) = false) ∧
    (settledTest settleEnds = true ∧ settleEnds.due (settleEnds.requests.sides.get .west).settleTimer = true) ∧
    settledTest echoEnds = true ∧ echoEnds.due ((echoEnds.requests.sides.get .west).echo.map (·.expiry)) = true := by
  decide +kernel

/-- Stopped timers, timers before their moment, and each timer at its own. -/
theorem test_hyp_RequestTimersExpire :
    ((linked.running = true ∧ TablesSound linked ∧ RequestsSettled linked) ∧
      (linked.requests.sides.get .west).settleTimer = none ∧ (linked.requests.sides.get .west).echo = none) ∧
    ((settling.running = true ∧ TablesSound settling ∧ RequestsSettled settling) ∧
      ¬timerDue settling (settling.requests.sides.get .west).settleTimer ∧
      ¬timerDue settling ((settling.requests.sides.get .west).echo.map (·.expiry))) ∧
    ((settleEnds.running = true ∧ TablesSound settleEnds ∧ RequestsSettled settleEnds) ∧
      timerDue settleEnds (settleEnds.requests.sides.get .west).settleTimer) ∧
    (echoEnds.running = true ∧ TablesSound echoEnds ∧ RequestsSettled echoEnds) ∧
      timerDue echoEnds ((echoEnds.requests.sides.get .west).echo.map (·.expiry)) := by
  simp only [timerDue_iff, Bool.not_eq_true]
  have h := settling_timers
  exact ⟨⟨settledTest_sound h.1.1, h.1.2⟩, ⟨⟨settling_facts.2.2.2.2.2.1, settling_tables, settling_settled⟩, h.2.1⟩,
    ⟨settledTest_sound h.2.2.1.1, h.2.2.1.2⟩, settledTest_sound h.2.2.2.1, h.2.2.2.2⟩

/-- Node 7 heard on both links about span 5, counted on one and set aside on the other; and a QUIET of node 5. -/
theorem test_hyp_RecordsHoldWhatIsHeard :
    let n := note .dark .switched 7 33
    let h : Hearing := { ring := ring33, standing := ⟨some n, some (note .settle .bridged 7 33)⟩, now := 0 }
    let quiet : Hearing := { h with standing := ⟨some (note .quiet .idle 5 33), none⟩ }
    let idle : Pair LocalRequest := ⟨LocalRequest.idle, LocalRequest.idle⟩
    let sides : Pair LocalRequest :=
      ⟨LocalRequest.idle, { LocalRequest.idle with line := .dim, echo := some { links := [.east], expiry := 64 } }⟩
    let reporters (g : Hearing) (p : Pair LocalRequest) (span : Nat) :=
      ((g.derivePass p).records[span]?).map (·.reporters)
    h.ring.sound ∧ 5 < h.ring.size ∧
      reporters h sides 5 = some [{ id := 7, kind := some .settle, state := some .bridged },
                                  { id := 33, kind := some .dim, state := none }] ∧
      reporters h idle 5 = some [{ id := 7, kind := some .dark, state := some .switched }] ∧
      reporters quiet idle 0 = some [] :=
  ⟨ring33_sound, by decide +kernel⟩

/-- One input for each case of R86: a BAR, a DARK, a DIM, and nothing. -/
theorem test_hyp_ServedSetAndRole :
    let h : Hearing := { ring := ring33, standing := ⟨none, none⟩, now := 0 }
    let kinds (l : LocalRequest) := (h.derivePass ⟨l, LocalRequest.idle⟩).served.map fun e => (e.span, e.kind)
    h.ring.sound ∧ kinds { LocalRequest.idle with operator := .bar } = [(0, .bar)] ∧
      kinds { LocalRequest.idle with line := .dark } = [(0, .dark)] ∧
      kinds { LocalRequest.idle with line := .dim } = [(0, .dim)] ∧ kinds LocalRequest.idle = [] :=
  ⟨ring33_sound, by decide +kernel, by decide +kernel, by decide +kernel, by decide +kernel⟩

/-! The Switch Protocol Unit. -/

theorem switchSound_of {s : State}
    (h : s.protocol.served = s.requests.served ∧ s.protocol.role = s.requests.role)
    (hx : ∀ x : Side, (s.protocol.sides.get x).decided = s.protocol.decide s.geo x ∧
      (s.protocol.sides.get x).choice = some (s.protocol.content s.geo x) ∧
      ((s.protocol.sides.get x).answer = .stopped ∨ (s.protocol.sides.get x).decided = .bridged))
    (hy : ∀ x : Side, (s.protocol.sides.get x).standing = (s.ports.get x).standing ∧
      (s.ports.get x).transmit = (s.protocol.sides.get x).choice ∧
      ((s.protocol.sides.get x).span.map fun rec => (rec.kind, rec.reporters)) = s.requests.reportOn (s.geo.facing x)) :
    SwitchSound s :=
  fun _ => ⟨h.1, h.2, fun x => ⟨(hx x).1, (hx x).2.1, fun ha => (hx x).2.2.resolve_left ha⟩, hy⟩

theorem linked_switch : SwitchSound linked :=
  switchSound_of (by decide +kernel) (by intro x; cases x <;> decide +kernel) (by intro x; cases x <;> decide +kernel)
theorem cutWest_switch : SwitchSound cutWest :=
  switchSound_of (by decide +kernel) (by intro x; cases x <;> decide +kernel) (by intro x; cases x <;> decide +kernel)

/-- Node 21's DARK about span 2 heard on link E; both sides DARK; a BAR heard from elsewhere. -/
@[irreducible] def passing : State := after linked (hear .east (note .dark .idle 21 12))
@[irreducible] def isolated : State := after cutWest [.receiverConditionChange .east true false 2, .darkTimerExpiry .east]
@[irreducible] def barredAfar : State := after linked (hear .east (note .bar .idle 21 12))

/-- One state for each role of Table 26, and for each of the BARRED cases; in one span 5 is served and node 33 its DARK
reporter. -/
theorem test_hyp_DecidedAndTransmittedByRole :
    (linked.running = true ∧ SwitchSound linked ∧ linked.requests.role = .idle) ∧
    (SwitchSound passing ∧ passing.requests.role = .passing) ∧
    (SwitchSound asking ∧ asking.requests.role = .switchingEast) ∧
    (cutWest.running = true ∧ SwitchSound cutWest ∧ cutWest.requests.role = .switchingWest ∧
      (∃ e ∈ cutWest.requests.served, e.span = cutWest.geo.facing .west) ∧
      ∀ e ∈ cutWest.requests.served, e.kind ≠ .bar) ∧
    (SwitchSound isolated ∧ isolated.requests.role = .switchingBoth) ∧
    (SwitchSound barred ∧ barred.requests.role = .barred) ∧
    SwitchSound barredAfar ∧ barredAfar.requests.role = .barred := by
  refine ⟨⟨by decide +kernel, linked_switch, by decide +kernel⟩, ⟨switchSound_of ?_ ?_ ?_, by decide +kernel⟩,
    ⟨switchSound_of ?_ ?_ ?_, by decide +kernel⟩, ⟨by decide +kernel, cutWest_switch, by decide +kernel⟩,
    ⟨switchSound_of ?_ ?_ ?_, by decide +kernel⟩, ⟨switchSound_of ?_ ?_ ?_, by decide +kernel⟩,
    switchSound_of ?_ ?_ ?_, by decide +kernel⟩ <;>
    first | decide +kernel | (intro x; cases x <;> decide +kernel)

theorem bridged_switch : SwitchSound bridged :=
  switchSound_of (by decide +kernel) (by intro x; cases x <;> decide +kernel) (by intro x; cases x <;> decide +kernel)

/-- A running timer before its moment and at it, and a stopped one. -/
theorem test_hyp_AnswerTimerReports :
    let waiting := after bridged [.fabDone 2]
    let ended := whenComes waiting (.answerTimerExpiry .east)
    (waiting.running = true ∧ SwitchSound waiting ∧ (waiting.protocol.sides.get .east).answer = .running 400 ∧
      waiting.now < 400) ∧
    (ended.running = true ∧ SwitchSound ended ∧ (ended.protocol.sides.get .east).answer = .running 400 ∧ 400 ≤ ended.now) ∧
    linked.running = true ∧ SwitchSound linked ∧ (linked.protocol.sides.get .east).answer = .stopped := by
  refine ⟨⟨by decide +kernel, switchSound_of ?_ ?_ ?_, by decide +kernel⟩,
    ⟨by decide +kernel, switchSound_of ?_ ?_ ?_, by decide +kernel⟩, by decide +kernel, linked_switch,
    by decide +kernel⟩ <;> first | decide +kernel | (intro x; cases x <;> decide +kernel)

/-! The Plan Engine and the Fabric Port. -/

theorem test_hyp_SweepCompletionCommits : cutWest.loader.load ≠ .noLoad ∧ cutWest.plan.sweep.isSome = true := by
  decide +kernel

theorem test_hyp_RoutesCoverTheRing : 3 ≤ ring33.size ∧ 0 < ring33.size ∧ 5 < ring33.size := by decide

/-- Nothing served, a BAR, and spans 2 and 4. -/
theorem test_hyp_IslandsPartitionTheRing :
    let served : List ServedEntry := [{ span := 2, kind := .dark }, { span := 4, kind := .force }]
    let bar : List ServedEntry := [{ span := 2, kind := .bar }]
    ring33.sound ∧ (∀ e ∈ served ++ bar, e.span < ring33.size) ∧ served.Pairwise (fun a b => a.span < b.span) ∧
      bar.Pairwise (fun a b => a.span < b.span) ∧ (ring33.buildPlan { span2Dark with served := served } []).switched = [2, 4] ∧
      (ring33.buildPlan { span2Dark with served := bar } []).switched = [] :=
  ⟨ring33_sound, by decide +kernel⟩

/-- A BAR; an EXTRA record under a DARK and under nothing; and with spans 2 and 4 dark, records of Table 33 for cases 3 to 6:
12 meets neither, 520 lies outside, 13 is BARE, 15 has its ends in two islands. -/
theorem test_hyp_ActionsByClass :
    let two : Snapshot := { span2Dark with
      served := [{ span := 2, kind := .dark }, { span := 4, kind := .dark }], knownDark := [2, 4] }
    let island := ring33.islandOf (ring33.islands (switchedSpans two.served))
    let route (c : Circuit) := ring33.circuitRoute c
    let meets (c : Circuit) : Prop := ∃ e ∈ two.served, ring33.covers (route c) e.span = true
    let outside (c : Circuit) : Prop := island (route c).source ≠ island 0 ∧ island (route c).destination ≠ island 0
    let c12 := record 12 8 33 21 .east .prot 0 .restoreAnyway
    let c13 := record 13 8 12 7 .east .bare 0 .restoreAnyway
    let c15 := record 15 8 21 12 .east .prot 0 .restoreAnyway
    let c520 := record 520 9 12 40 .west .prot 3500 .restoreAnyway
    (∃ e ∈ ([{ span := 2, kind := .bar }] : List ServedEntry), e.kind = .bar) ∧
      (∀ e ∈ two.served, e.kind ≠ .bar) ∧ (record 44 47 33 5 .east .extra 0 .restoreAnyway).cls = .extra ∧
      ¬meets c12 ∧ (meets c520 ∧ outside c520) ∧ (meets c13 ∧ ¬outside c13) ∧
      (meets c15 ∧ ¬outside c15 ∧ island (route c15).source ≠ island (route c15).destination) ∧
      ring33.actionOf span2Dark c15 = .restored 5 2113 false := by
  decide +kernel

/-- Circuits 15, 517 and 520 of Table 32, in the one island of span 2: within any ceiling, silenced for LATE, and late. -/
theorem test_hyp_RestoredRouteFigures :
    let island := ring33.islandOf (ring33.islands (switchedSpans span2Dark.served))
    let ok (c : Circuit) : Prop :=
      (∃ e ∈ span2Dark.served, ring33.covers (ring33.circuitRoute c) e.span = true) ∧
        island (ring33.circuitRoute c).source = .arc 3 2 ∧ island (ring33.circuitRoute c).destination = .arc 3 2
    let c15 := record 15 8 21 12 .east .prot 0 .restoreAnyway
    let c517 := record 517 7 5 40 .east .prot 3000 .squelchIfLate
    let c520 := record 520 9 12 40 .west .prot 3500 .restoreAnyway
    ring33.sound ∧ (c15.sound ring33 ∧ c517.sound ring33 ∧ c520.sound ring33) ∧
      (∀ e ∈ span2Dark.served, e.span < ring33.size) ∧ span2Dark.served.Pairwise (fun a b => a.span < b.span) ∧
      (∀ e ∈ span2Dark.served, e.kind ≠ .bar) ∧ island 0 = .arc 3 2 ∧ ok c15 ∧ ok c517 ∧ ok c520 ∧
      ring33.actionOf span2Dark c517 = .squelched .late ∧ ring33.actionOf span2Dark c520 = .restored 9 3626 true :=
  ⟨ring33_sound, ⟨recordOk_sound (by decide +kernel), recordOk_sound (by decide +kernel), recordOk_sound (by decide +kernel)⟩,
    by decide +kernel⟩

theorem table30_sound : tableSound ring33 table30 := tableOk_sound (by decide +kernel)

theorem test_hyp_OneRestoredPerChannel :
    let c := record 520 9 12 40 .west .prot 3500 .restoreAnyway
    ring33.sound ∧ tableSound ring33 table30 ∧ (∀ e ∈ span2Dark.served, e.span < ring33.size) ∧
      span2Dark.served.Pairwise (fun a b => a.span < b.span) ∧ c ∈ table30 ∧
      ∃ hops latency late, ring33.actionOf span2Dark c = .restored hops latency late :=
  ⟨ring33_sound, table30_sound, by decide +kernel, by decide +kernel, by decide +kernel, 9, 3626, true, by decide +kernel⟩

/-- A map input for a snapshot, with the plan built for it. -/
def inputFor (snap : Snapshot) : MapInput :=
  { ring := ring33, snapshot := snap, plan := ring33.buildPlan snap table30, circuits := table30 }

/-- Nothing served; span 2 served, where node 33 passes; records of each local role and a channel no record holds. -/
theorem test_hyp_NormalMapByLocalRole :
    let idle := inputFor { span2Dark with served := [], knownDark := [] }
    let i := inputFor span2Dark
    (idle.ring.sound ∧ tableSound idle.ring idle.circuits ∧ idle.role.switches = false ∧ idle.role = .idle) ∧
    i.ring.sound ∧ tableSound i.ring i.circuits ∧ i.role.switches = false ∧ i.role = .passing ∧
      i.localRole (record 520 9 12 40 .west .prot 3500 .restoreAnyway) = .through ∧
      i.localRole (record 14 8 33 7 .west .prot 0 .restoreAnyway) = .head ∧
      i.localRole (record 530 10 5 33 .east .prot 4000 .restoreAnyway) = .tail ∧ ∀ c ∈ i.circuits, c.channel ≠ 11 :=
  ⟨⟨ring33_sound, table30_sound, by decide +kernel, by decide +kernel⟩, ring33_sound, table30_sound, by decide +kernel,
    by decide +kernel, by decide +kernel, by decide +kernel, by decide +kernel, by decide +kernel⟩

/-- Span 5 DARK with side W SWITCHED (Table 36): 520 restored through, 14 restored here. The same with side W IDLE. Spans 0
and 5 DARK (section 7.11): 520 outside, 14 squelched. -/
theorem test_hyp_SwitchingMapByTable35 :
    let i := inputFor { span2Dark with served := [{ span := 5, kind := .dark }], knownDark := [5], decided := ⟨.idle, .switched⟩ }
    let early := inputFor { span2Dark with served := [{ span := 5, kind := .dark }], knownDark := [5] }
    let j := inputFor { span2Dark with served := [{ span := 0, kind := .dark }, { span := 5, kind := .dark }],
                                       knownDark := [0, 5], decided := ⟨.switched, .switched⟩ }
    let c520 := record 520 9 12 40 .west .prot 3500 .restoreAnyway
    let c14 := record 14 8 33 7 .west .prot 0 .restoreAnyway
    i.ring.sound ∧ tableSound i.ring i.circuits ∧ i.role.switches = true ∧ i.role.switchesOn .west = true ∧
      i.snapshot.decided.get .west = .switched ∧ c520 ∈ i.circuits ∧ c14 ∈ i.circuits ∧
      i.ring.covers (i.ring.circuitRoute c520) (i.ring.facing .west) = true ∧
      i.ring.covers (i.ring.circuitRoute c14) (i.ring.facing .west) = true ∧
      i.action c520 = .restored 9 2926 false ∧ i.localRole c520 = .through ∧
      i.action c14 = .restored 5 1763 false ∧ i.localRole c14 = .head ∧
      (early.role.switches = true ∧ early.snapshot.decided.get .west = .idle) ∧
      j.role = .switchingBoth ∧ j.action c520 = .outside ∧ j.localRole c520 = .through ∧
      j.action c14 = .squelched .islands :=
  ⟨ring33_sound, table30_sound, by decide +kernel⟩

theorem test_hyp_FreezeFormsTheGate : hostReady linked ∧ linked.gateOpen = false := ⟨linked_ready, by decide +kernel⟩

/-- Generation 2 in flight; a DONE of 2 and one of 3. -/
theorem test_hyp_DoneEndsThePublication :
    bridged.running = true ∧ SwitchSound bridged ∧
      (bridged.fabric.inFlight.map fun f => f.map.generation) = some (some (2#16).toNat) ∧
      (bridged.fabric.inFlight.map fun f => f.map.generation) ≠ some (some (3#16).toNat) :=
  ⟨by decide +kernel, bridged_switch, by decide +kernel, by decide +kernel⟩

/-- Nothing in flight; a map in flight before its 10 ms have passed; and, once they have, with none waiting and with one
waiting behind the open gate. -/
theorem test_hyp_FabricTimeoutPresentsAgain :
    let late := whenComes bridged .fabricTimeout
    let s := whenComes (after bridged [.operatorForce [1, 2], .sweepCompletion]) .fabricTimeout
    let flight (t : State) := t.fabric.inFlight.map fun f => (f.map.generation, decide (f.expiry ≤ t.now))
    linked.loader.load ≠ .noLoad ∧ linked.fabric.inFlight = none ∧ bridged.loader.load ≠ .noLoad ∧
      flight bridged = some (some 2, false) ∧ flight late = some (some 2, true) ∧ late.fabric.mapPending = false ∧
      s.loader.load ≠ .noLoad ∧ flight s = some (some 2, true) ∧ s.gateOpen = true ∧
      s.fabric.mapPending = true := by decide +kernel

/-! The management port and the Attention Unit. -/

/-- The longest answer body, and a map with line and drop entries. -/
theorem test_hyp_LineBytesByLayout :
    let m := switched33.fabric.committed.map fun c => { c.map with generation := some 65535 }
    (List.replicate 100 0#8).length ≤ 100 ∧
      (m.map fun m => ((m.lines.get .east).length, (m.lines.get .west).length, m.drops.length, m.generation)) =
        some (80, 80, 4, some 65535) ∧
      (m.bind fun m => (m.lines.get .east)[9]?) = some (.turn 49) ∧ (49 : Nat) < 80 ∧
      (m.bind fun m => m.drops[3]?) = some ⟨530, some (.east, 50)⟩ ∧ 530 ≤ 4095 := by decide +kernel

theorem test_hyp_StatusAnswersLayout :
    portReady (after State.reset [.resetRelease]) ∧ portReady settling :=
  ⟨by unfold portReady; decide +kernel, settling_ready.2⟩

theorem test_hyp_LockedAndBusy :
    let failed := after State.reset [.resetRelease, .readFailed]
    portReady failed ∧ failed.loader.load ≠ .loaded ∧ failed.sweeping = false ∧ (List.replicate 40 0#8).length ≤ 40 ∧
      ((List.replicate 40 0#8).headD 0).toNat % 64 ≠ 1 ∧ hostReady cutWest ∧ cutWest.sweeping = true ∧
      (addBody 15 8 21 12 0 0 0 0).length = 9 + ((addBody 15 8 21 12 0 0 0 0).getD 8 0).toNat := by
  unfold portReady hostReady; decide +kernel

/-- A body one byte short and one byte long of each length the port tests, and the first undefined side and action. -/
theorem test_hyp_MalformedBodiesAreInvalid :
    hostReady linked ∧ (List.replicate 8 0#8).length < 9 ∧
      (List.replicate 10 0#8).length ≠ 9 + ((List.replicate 10 0#8).getD 8 0).toNat ∧
      1 < (2#8).toNat ∧ 3 < (4#8).toNat := ⟨linked_ready, by decide⟩

/-- No length byte, L of 41, a window cut short, a torn byte, a byte after the CRC-8, and a CRC-8 that does not match;
codes 00h and 02h have no request. -/
theorem test_hyp_BadFrameAndUnknownCode :
    portReady linked ∧ (0x01#8) ≠ 0xFF#8 ∧ 40 < (([41] : List Byte).headD 0).toNat ∧
      ([0] : List Byte).length < 0 + 2 ∧ (1 : Nat) ≠ 0 ∧ (∃ b ∈ ([0, 0x15, 0x00] : List Byte).drop (0 + 2), b ≠ 0xFF#8) ∧
      ([0, 0x16] : List Byte).getD (0 + 1) 0 ≠ crc8 (0x01 :: ([0, 0x16] : List Byte).take (0 + 1)) ∧
      (0x02#8).toNat ∉
        [0x01, 0x10, 0x11, 0x12, 0x13, 0x14, 0x15, 0x20, 0x21, 0x30, 0x40, 0x41, 0x42, 0x50, 0x51, 0x60, 0x61] ∧
      (0x02#8) ≠ 0xFF#8 := by
  unfold portReady
  decide +kernel

theorem test_hyp_WindowsWithoutRequest :
    linked.loader.load ≠ .noLoad ∧ ([0xFE] : List Byte) = 0xFE#8 :: [] ∧ (0xFE#8) ≠ 0xFF#8 := by decide +kernel

theorem test_hyp_FaultReportsDriveAttn :
    linked.attention.records.ofGroup .mgmt = none ∧
      (after linked [.unknownRequest 0x77 []]).attention.records.ofGroup .mgmt ≠ none := by decide +kernel

/-- Groups 5 and 6 of FAULT-READ, and 5, 6, 7 and 8 of FAULT-CLEAR. -/
theorem test_hyp_FaultReadAndClear :
    portReady linked ∧ 5 < (6#8).toNat ∧
      [FaultGroup.linkE, .linkW, .protocol, .fabric, .mgmt, .load][(5#8).toNat]? = some .load ∧ 7 < (8#8).toNat ∧
      (7#8).toNat ≤ 7 := by unfold portReady; decide +kernel

/-! Every step of a sound state: node 33 with a notice period waiting. -/

/-- Node 33 with a command in its queue. -/
@[irreducible] def waiting33 : State := linked.setPending [.noticePeriod]

/-- The state a step answers. -/
def stepped (s : State) : State :=
  match step s with
  | .next t => t
  | _ => s

theorem step_stepped {s : State} (h : (match step s with | .next _ => true | _ => false) = true) :
    step s = .next (stepped s) := by
  unfold stepped
  cases hs : step s with
  | next t => rfl
  | fault f => rw [hs] at h; cases h
  | refused r => rw [hs] at h; cases h

/-- The step of that state answers a next state. -/
theorem test_hyp_steps : ∃ t, step waiting33 = .next t := ⟨_, step_stepped (by decide +kernel)⟩

theorem test_hyp_LinksStaySound : LinksSound waiting33 := linksSound_of (by intro x; cases x <;> decide +kernel)
theorem test_hyp_MonitorsStaySound : MonitorsSound waiting33 := monitorsSound_of (by intro x; cases x <;> decide +kernel)
theorem test_hyp_TablesStaySound : TablesSound waiting33 :=
  tablesSound_of (by decide +kernel) (by decide +kernel) (by decide +kernel) (by decide +kernel)
/-- Node 33 at the moment its west DARK timer expires, the expiry in its queue, and the state that step answers: side W
goes from IDLE to SWITCHED. -/
@[irreducible] def cutting : State := (whenComes darkening (.darkTimerExpiry .west)).setPending [.darkTimerExpiry .west]
@[irreducible] def cut : State := stepped cutting
/-- A FORCE on side E in the queue, and the state that step answers: side E goes from IDLE to BRIDGED. -/
@[irreducible] def forcing : State := linked.setPending [.operatorForce [0, 2]]
@[irreducible] def forced : State := stepped forcing

theorem step_cutting : step cutting = .next cut := by unfold cut; exact step_stepped (by decide +kernel)
theorem step_forcing : step forcing = .next forced := by unfold forced; exact step_stepped (by decide +kernel)

theorem linesFollow_of {s : State}
    (h : ∀ x : Side, (decide ((s.requests.sides.get x).line = .dark) = decide ((s.monitors.get x).declared = .dark)) ∧
      decide ((s.requests.sides.get x).line = .dim) = decide ((s.monitors.get x).declared = .dim)) : LinesFollowLevels s :=
  fun _ x => ⟨decide_eq_decide.mp (h x).1, decide_eq_decide.mp (h x).2⟩

theorem blocksHeld_of {s : State} (h : s.loader.load = .loaded) : BlocksHeld s := fun n => absurd h n

theorem noAnswer_of {s : State} (x : Side)
    (h : ∀ link : Side, (s.ports.get link).standing.map (·.state) = some .idle) : ¬answerNoticeStands s x := by
  rintro ⟨link, n, hn, hs, -⟩
  have hl := h link
  rw [hn] at hl
  exact hs (Option.some.inj hl)

theorem cutting_sound : TablesSound cutting ∧ RequestsSettled cutting ∧ LinesFollowLevels cutting ∧ SwitchSound cutting :=
  ⟨tablesSound_of (by decide +kernel) (by decide +kernel) (by decide +kernel) (by decide +kernel),
    requestsSettled_of (by decide +kernel) (by decide +kernel), linesFollow_of (by intro x; cases x <;> decide +kernel),
    switchSound_of (by decide +kernel) (by intro x; cases x <;> decide +kernel) (by intro x; cases x <;> decide +kernel)⟩

theorem forcing_sound : TablesSound forcing ∧ RequestsSettled forcing ∧ LinesFollowLevels forcing ∧ SwitchSound forcing :=
  ⟨tablesSound_of (by decide +kernel) (by decide +kernel) (by decide +kernel) (by decide +kernel),
    requestsSettled_of (by decide +kernel) (by decide +kernel), linesFollow_of (by intro x; cases x <;> decide +kernel),
    switchSound_of (by decide +kernel) (by intro x; cases x <;> decide +kernel) (by intro x; cases x <;> decide +kernel)⟩

theorem test_hyp_RequestsStaySettled :
    TablesSound cutting ∧ RequestsSettled cutting ∧ step cutting = .next cut ∧ LinesFollowLevels cutting :=
  ⟨cutting_sound.1, cutting_sound.2.1, step_cutting, cutting_sound.2.2.1⟩

/-- A side that comes to be SWITCHED, and one that leaves IDLE with no cause of SWITCHED. -/
theorem test_hyp_SwitchStaysUpToDate :
    ((TablesSound cutting ∧ RequestsSettled cutting ∧ LinesFollowLevels cutting ∧ SwitchSound cutting) ∧
      step cutting = .next cut ∧ (cutting.protocol.sides.get .west).decided ≠ .switched ∧
      (cut.protocol.sides.get .west).decided = .switched) ∧
    (TablesSound forcing ∧ RequestsSettled forcing ∧ LinesFollowLevels forcing ∧ SwitchSound forcing) ∧
      step forcing = .next forced ∧ (forcing.protocol.sides.get .east).decided = .idle ∧
      (forced.protocol.sides.get .east).decided ≠ .idle ∧
      ¬(reportsDark forced .east ∨ answerNoticeStands forcing .east ∨ answerNoticeStands forced .east) := by
  refine ⟨⟨cutting_sound, step_cutting, by decide +kernel, by decide +kernel⟩, forcing_sound, step_forcing,
    by decide +kernel, by decide +kernel, ?_⟩
  rintro (⟨kind, reporters, hr, p, hp, -, hk⟩ | h | h)
  · rw [show forced.requests.reportOn (forced.geo.facing .east) =
      some (.force, [{ id := 33, kind := some .force, state := none }]) by decide +kernel] at hr
    obtain ⟨rfl, rfl⟩ := Prod.mk.inj (Option.some.inj hr)
    rw [List.mem_singleton.mp hp] at hk
    cases hk
  · exact noAnswer_of .east (by intro x; cases x <;> decide +kernel) h
  · exact noAnswer_of .east (by intro x; cases x <;> decide +kernel) h

/-- The served set, the known-dark set and a decided state change in one step, no sweep running before it; and node 33 with
a sweep running. -/
theorem test_hyp_EngineStaysSound :
    (BlocksHeld cutting ∧ EngineSound cutting ∧ step cutting = .next cut ∧ cutting.loader.load = .loaded ∧
      cut.loader.load = .loaded ∧ (∀ c rest, cutting.pending = c :: rest → ¬carriesRestart c) ∧
      cut.requests.served ≠ cutting.requests.served ∧
      knownDark cut.requests.records ≠ knownDark cutting.requests.records ∧
      (cut.protocol.sides.get .west).decided ≠ (cutting.protocol.sides.get .west).decided) ∧
    cut.plan.sweep.isSome = true ∧ cut.plan.followUp = false := by
  refine ⟨⟨blocksHeld_of (by decide +kernel), ?_, step_cutting, by decide +kernel, by decide +kernel, ?_,
    by decide +kernel, by decide +kernel, by decide +kernel⟩, by decide +kernel, by decide +kernel⟩
  · refine ⟨by decide +kernel, by decide +kernel, by decide +kernel, ?_, by decide +kernel, ?_, by decide +kernel⟩
    · rw [show cutting.plan.sweep = none by decide +kernel]
      nofun
    · rw [show cutting.fabric.inFlight = none by decide +kernel]
      nofun
  · rw [show cutting.pending = [.darkTimerExpiry .west] by decide +kernel]
    rintro c rest h
    obtain ⟨rfl, -⟩ := List.cons.inj h
    rintro (⟨body, h⟩ | ⟨body, h⟩ | ⟨rest, bits, h⟩) <;> cases h

theorem test_hyp_FlagsStaySound :
    CausesMatchRecords waiting33 ∧ ArmedOnlyLoaded waiting33 ∧ PortSound waiting33 ∧ SettingsInRange waiting33 ∧
      LoaderSound waiting33 ∧ BlocksHeld waiting33 ∧ (after State.reset [.resetRelease]).loader.load ≠ .loaded ∧
      BlocksHeld (after State.reset [.resetRelease]) := by
  refine ⟨fun g => ?_, by unfold ArmedOnlyLoaded; decide +kernel, by unfold PortSound; decide +kernel,
    by unfold SettingsInRange; decide +kernel, ?_, blocksHeld_of (by decide +kernel),
    by decide +kernel, fun _ => ?_⟩
  · cases g <;> decide +kernel
  · simp only [LoaderSound, show waiting33.loader.load = .loaded by decide +kernel]
    decide +kernel
  · refine ⟨by decide +kernel, by decide +kernel, by decide +kernel, by decide +kernel, by decide +kernel, by decide +kernel,
      fun x => ?_⟩
    cases x <;> decide +kernel

end Sys2Proof.Tests
end

section
/-!
Proofs about the edits of the Circuit Table (chapter 2): how an edit's service answers a request in a ready port, the checks
of ADD, and the removal of a record by RETIRE.
-/

namespace Sys2Proof.Machine

/-! ### Requests in the port of a loaded part -/

theorem locks_of_loaded {s : State} (h : s.loader.load = .loaded) (code : Byte) (body : List Byte) :
    s.locks code body = false := by
  simp [State.locks, State.running, h]

@[simp] theorem State.deliver_table (s : State) (i : Instr) : (s.deliver i).table = s.table := rfl
@[simp] theorem State.deliver_ring (s : State) (i : Instr) : (s.deliver i).ring = s.ring := rfl
@[simp] theorem State.deliver_geo (s : State) (i : Instr) : (s.deliver i).geo = s.geo := rfl
@[simp] theorem State.deliver_sweeping (s : State) (i : Instr) : (s.deliver i).sweeping = s.sweeping := rfl

@[simp] theorem State.answer_table (s : State) (code : Byte) (a : Reply) : (s.answer code a).table = s.table := rfl

theorem State.geo_of_ring {s : State} {r : Ring} (h : s.ring = some r) : s.geo = r := by
  simp [State.geo, h]

/-- A request that its service refuses is answered, and nothing but the port changes (R153). -/
theorem answersOnly_of_service {i : Instr} {s : State} {code : Byte} {body : List Byte} {service : Service} {a : Reply}
    (run : exec i s = s.live fun t => t.request i code body service) (ready : hostReady s)
    (fits : body.length ≤ longestBody) (serve : service body (s.deliver i) = (s.deliver i, a)) :
    AnswersOnly i s code a.code a.body := by
  obtain ⟨loaded, rdy⟩ := ready
  exact answers_of_service run (by simp [loaded]) rdy fits (locks_of_loaded loaded code body) serve (onlyChanges_refl _ _)
    rfl rfl trivial

/-! ### Records by id -/

/-- The id index finds no record exactly where none has the id (R22). -/
theorem CircuitTable.find_eq_none_iff (t : CircuitTable) (id : Nat) :
    t.find id = none ↔ ¬∃ c ∈ t.circuits, c.id = id := by
  simp [CircuitTable.find]

theorem CircuitTable.find_isSome_iff (t : CircuitTable) (id : Nat) :
    (t.find id).isSome = true ↔ ∃ c ∈ t.circuits, c.id = id := by
  simp [CircuitTable.find]

/-- Where ids are unique, the id index finds every record by its id (R22). -/
theorem CircuitTable.find_of_mem {t : CircuitTable} (unique : (t.circuits.map (·.id)).Nodup) {c : Circuit}
    (h : c ∈ t.circuits) : t.find c.id = some c := by
  cases hf : t.find c.id with
  | none => exact absurd ⟨c, h, rfl⟩ ((t.find_eq_none_iff c.id).mp hf)
  | some d =>
    have hd : d ∈ t.circuits := List.mem_of_find?_eq_some hf
    have hid : d.id = c.id := by simpa using List.find?_some hf
    rw [List.inj_on_of_nodup_map unique hd h hid]

theorem TablesSound.ids_nodup {s : State} (h : TablesSound s) : (s.table.circuits.map (·.id)).Nodup := by
  unfold TablesSound at h
  split at h
  · rw [h.2]
    exact List.nodup_nil
  · obtain ⟨-, -, ⟨-, -, unique, -⟩, -⟩ := h
    exact unique

/-! ### The checks of ADD (R27) -/

/-- The codes that name a direction, a class and a late policy (Table 42). -/
theorem Direction.ofCode_eq_none_iff (n : Nat) : Direction.ofCode n = none ↔ 1 < n := by
  rcases n with _ | _ | n <;> simp [Direction.ofCode]

theorem CircuitClass.ofCode_eq_none_iff (n : Nat) : CircuitClass.ofCode n = none ↔ 2 < n := by
  rcases n with _ | _ | _ | n <;> simp [CircuitClass.ofCode]

theorem LatePolicy.ofCode_eq_none_iff (n : Nat) : LatePolicy.ofCode n = none ↔ 1 < n := by
  rcases n with _ | _ | n <;> simp [LatePolicy.ofCode]

theorem Direction.eq_of_ofCode {n : Nat} {d : Direction} (h : Direction.ofCode n = some d) :
    d = if n = 0 then .east else .west := by
  unfold Direction.ofCode at h
  split at h <;> simp_all

theorem CircuitClass.eq_extra_iff_of_ofCode {n : Nat} {c : CircuitClass} (h : CircuitClass.ofCode n = some c) :
    c = .extra ↔ n = 2 := by
  unfold CircuitClass.ofCode at h
  split at h <;> simp_all <;> simp [← h]

theorem CircuitClass.agrees_iff (c : CircuitClass) (channel : Nat) :
    c.agrees channel = true ↔ (c = .extra ↔ 40 ≤ channel) := by
  cases c <;> simp [CircuitClass.agrees, isProtection]

/-- The ends of an ADD are ids on the ring (R27, ENDPOINT). -/
def AddBody.endsOnRing (a : AddBody) (r : Ring) : Prop :=
  ¬(63 < a.source ∨ 63 < a.destination ∨ r.positionOf a.source = none ∨ r.positionOf a.destination = none)

/-- An ADD passes the checks of R27, step 1, that come before its codes. -/
structure AddBody.Placed (a : AddBody) (r : Ring) : Prop where
  id : ¬4095 < a.id
  channel : ¬79 < a.channel
  ends : a.endsOnRing r
  differ : a.source ≠ a.destination

/-- The record an ADD asks for, its codes read. -/
def AddBody.record (a : AddBody) (direction : Direction) (cls : CircuitClass) (policy : LatePolicy) : Circuit :=
  { id := a.id, channel := a.channel, source := a.source, destination := a.destination, direction := direction, cls := cls,
    ceiling := a.ceiling, policy := policy, label := storedLabel a.label }

section Checks

variable {r : Ring} {a : AddBody}

theorem Ring.checkAdd_id (h : 4095 < a.id) : r.checkAdd a = .error .id := by
  simp only [Ring.checkAdd, if_pos h]

theorem Ring.checkAdd_channel (id : ¬4095 < a.id) (h : 79 < a.channel) : r.checkAdd a = .error .channel := by
  simp only [Ring.checkAdd, if_neg id, if_pos h]

theorem Ring.checkAdd_endpoint (id : ¬4095 < a.id) (channel : ¬79 < a.channel) (h : ¬a.endsOnRing r) :
    r.checkAdd a = .error .endpoint := by
  simp only [Ring.checkAdd, if_neg id, if_neg channel, if_pos (not_not.mp h)]

theorem Ring.checkAdd_sameEnds (id : ¬4095 < a.id) (channel : ¬79 < a.channel) (ends : a.endsOnRing r)
    (h : a.source = a.destination) : r.checkAdd a = .error .sameEnds := by
  simp only [Ring.checkAdd, if_neg id, if_neg channel, if_neg ends, if_pos h]

theorem Ring.checkAdd_badCode (placed : a.Placed r)
    (h : 1 < directionField a.codes ∨ 2 < classField a.codes ∨ 1 < policyField a.codes) :
    r.checkAdd a = .error .badCode := by
  rw [← Direction.ofCode_eq_none_iff, ← CircuitClass.ofCode_eq_none_iff, ← LatePolicy.ofCode_eq_none_iff] at h
  simp only [Ring.checkAdd, if_neg placed.id, if_neg placed.channel, if_neg placed.ends, if_neg placed.differ]
  split
  · simp_all
  · rfl

/-- With its codes read, what is left of step 1 is that the class agrees with the channel (R18). -/
theorem Ring.checkAdd_of_codes (placed : a.Placed r) {direction : Direction} {cls : CircuitClass} {policy : LatePolicy}
    (hd : Direction.ofCode (directionField a.codes) = some direction)
    (hc : CircuitClass.ofCode (classField a.codes) = some cls)
    (hp : LatePolicy.ofCode (policyField a.codes) = some policy) :
    r.checkAdd a = if cls.agrees a.channel then .ok (a.record direction cls policy) else .error .classChannel := by
  simp only [Ring.checkAdd, if_neg placed.id, if_neg placed.channel, if_neg placed.ends, if_neg placed.differ, hd, hc, hp]
  rfl

/-- Codes that are all defined can be read. -/
theorem AddBody.codes_read (h : ¬(1 < directionField a.codes ∨ 2 < classField a.codes ∨ 1 < policyField a.codes)) :
    ∃ direction cls policy, Direction.ofCode (directionField a.codes) = some direction ∧
      CircuitClass.ofCode (classField a.codes) = some cls ∧ LatePolicy.ofCode (policyField a.codes) = some policy := by
  rw [← Direction.ofCode_eq_none_iff, ← CircuitClass.ofCode_eq_none_iff, ← LatePolicy.ofCode_eq_none_iff] at h
  push Not at h
  obtain ⟨hd, hc, hp⟩ := h
  obtain ⟨direction, hd⟩ := Option.ne_none_iff_exists'.mp hd
  obtain ⟨cls, hc⟩ := Option.ne_none_iff_exists'.mp hc
  obtain ⟨policy, hp⟩ := Option.ne_none_iff_exists'.mp hp
  exact ⟨direction, cls, policy, hd, hc, hp⟩

theorem Ring.checkAdd_classChannel (placed : a.Placed r)
    (codes : ¬(1 < directionField a.codes ∨ 2 < classField a.codes ∨ 1 < policyField a.codes))
    (h : ¬(classField a.codes = 2 ↔ 40 ≤ a.channel)) : r.checkAdd a = .error .classChannel := by
  obtain ⟨direction, cls, policy, hd, hc, hp⟩ := AddBody.codes_read codes
  rw [← CircuitClass.eq_extra_iff_of_ofCode hc, ← CircuitClass.agrees_iff] at h
  rw [Ring.checkAdd_of_codes placed hd hc hp, if_neg h]

/-- An ADD that passes step 1 asks for a record with its id and channel, on the route its ends and its direction code
give. -/
theorem Ring.checkAdd_ok (placed : a.Placed r)
    (codes : ¬(1 < directionField a.codes ∨ 2 < classField a.codes ∨ 1 < policyField a.codes))
    (h : classField a.codes = 2 ↔ 40 ≤ a.channel) :
    ∃ c, r.checkAdd a = .ok c ∧ c.id = a.id ∧ c.channel = a.channel ∧
      r.circuitRoute c = r.route ((r.positionOf a.source).getD 0) ((r.positionOf a.destination).getD 0)
        (if directionField a.codes = 0 then .east else .west) := by
  obtain ⟨direction, cls, policy, hd, hc, hp⟩ := AddBody.codes_read codes
  rw [← CircuitClass.eq_extra_iff_of_ofCode hc, ← CircuitClass.agrees_iff] at h
  rw [Ring.checkAdd_of_codes placed hd hc hp, if_pos h, ← Direction.eq_of_ofCode hd]
  exact ⟨_, rfl, rfl, rfl, rfl⟩

end Checks

/-! ### The answers of ADD (R27) -/

theorem Ring.clashing_eq_none_iff (r : Ring) (circuits : List Circuit) (c : Circuit) :
    r.clashing circuits c = none ↔
      ¬∃ d ∈ circuits, d.channel = c.channel ∧ r.overlap (r.circuitRoute d) (r.circuitRoute c) = true := by
  simp [Ring.clashing]

/-- The record CLASH names is the first of its chain that overlaps. -/
theorem Ring.clashing_eq_some_iff (r : Ring) (circuits : List Circuit) (c d : Circuit) :
    r.clashing circuits c = some d ↔
      (d.channel = c.channel ∧ r.overlap (r.circuitRoute d) (r.circuitRoute c) = true) ∧
      ∃ before after, circuits = before ++ d :: after ∧ ∀ e ∈ before,
        ¬(e.channel = c.channel ∧ r.overlap (r.circuitRoute e) (r.circuitRoute c) = true) := by
  simp [Ring.clashing, List.find?_eq_some_iff_append, imp_iff_not_or]

section Answers

variable {s : State} {r : Ring} {body : List Byte} {a : AddBody} {c : Circuit}

theorem serveAdd_invalid {d : Detail} (parse : parseAdd body = some a) (idle : s.sweeping = false) (geo : s.geo = r)
    (h : r.checkAdd a = .error d) : serveAdd body s = (s, Reply.invalid d) := by
  simp [serveAdd, parse, idle, geo, h]

theorem serveAdd_taken (parse : parseAdd body = some a) (idle : s.sweeping = false) (geo : s.geo = r)
    (ok : r.checkAdd a = .ok c) (h : ∃ d ∈ s.table.circuits, d.id = c.id) :
    serveAdd body s = (s, Reply.plain .taken) := by
  simp [serveAdd, parse, idle, geo, ok, (s.table.find_isSome_iff c.id).mpr h]

theorem serveAdd_clash {d : Circuit} (parse : parseAdd body = some a) (idle : s.sweeping = false) (geo : s.geo = r)
    (ok : r.checkAdd a = .ok c) (new : ¬∃ d ∈ s.table.circuits, d.id = c.id)
    (h : r.clashing s.table.circuits c = some d) : serveAdd body s = (s, ⟨.clash, idBytes d.id⟩) := by
  simp [serveAdd, parse, idle, geo, ok, (s.table.find_eq_none_iff c.id).mpr new, h]

theorem serveAdd_full (parse : parseAdd body = some a) (idle : s.sweeping = false) (geo : s.geo = r)
    (ok : r.checkAdd a = .ok c) (new : ¬∃ d ∈ s.table.circuits, d.id = c.id)
    (clear : r.clashing s.table.circuits c = none) (h : recordPlaces ≤ s.table.circuits.length) :
    serveAdd body s = (s, Reply.plain .full) := by
  simp [serveAdd, parse, idle, geo, ok, (s.table.find_eq_none_iff c.id).mpr new, clear, h]

end Answers

/-- An ADD body whose length byte counts its label is read field by field (R166). -/
theorem parseAdd_of_label (i1 i0 ch src dst codes c1 c0 : Byte) {label : List Byte} (short : label.length ≤ 31) :
    parseAdd (i1 :: i0 :: ch :: src :: dst :: codes :: c1 :: c0 :: byteOf label.length :: label) =
      some { id := wordOf i1 i0, channel := ch.toNat, source := src.toNat, destination := dst.toNat, codes := codes,
             ceiling := wordOf c1 c0, label := label } := by
  have hl : label.length = (byteOf label.length).toNat := by simp [byteOf]; omega
  simp only [parseAdd, if_pos hl]

/-- Settles O10: each refusal of ADD is the branch of its service that the failing check of R27 takes. -/
theorem addRefusals : Obligations.AddRefusals := by
  unfold Obligations.AddRefusals
  intro s r i1 i0 ch src dst codes c1 c0 label ready idle ring short refused id route clashes
  let body := i1 :: i0 :: ch :: src :: dst :: codes :: c1 :: c0 :: byteOf label.length :: label
  let a : AddBody := { id := id, channel := ch.toNat, source := src.toNat, destination := dst.toNat, codes := codes,
                       ceiling := wordOf c1 c0, label := label }
  have geo : (s.deliver (.add body)).geo = r := State.geo_of_ring ring
  have parse : parseAdd body = some a := parseAdd_of_label i1 i0 ch src dst codes c1 c0 short
  have fits : body.length ≤ longestBody := by
    simp only [body, List.length_cons, longestBody]
    omega
  have refuse {reply : Reply} (h : serveAdd body (s.deliver (.add body)) = (s.deliver (.add body), reply)) :
      refused reply.code reply.body := answersOnly_of_service rfl ready fits h
  have invalid {d : Detail} (h : r.checkAdd a = .error d) : refused .invalid [byteOf d.code] :=
    refuse (serveAdd_invalid parse idle geo h)
  have differ (h : ¬src = dst) : src.toNat ≠ dst.toNat := fun e => h (BitVec.eq_of_toNat_eq e)
  split_ifs with hid hchannel hends hsame hcodes hclass htaken hclash
  · exact invalid (Ring.checkAdd_id hid)
  · exact invalid (Ring.checkAdd_channel hid hchannel)
  · exact invalid (Ring.checkAdd_endpoint hid hchannel (not_not.mpr hends))
  · exact invalid (Ring.checkAdd_sameEnds hid hchannel hends (congrArg BitVec.toNat hsame))
  · exact invalid (Ring.checkAdd_badCode ⟨hid, hchannel, hends, differ hsame⟩ hcodes)
  rotate_right
  · exact invalid (Ring.checkAdd_classChannel ⟨hid, hchannel, hends, differ hsame⟩ hcodes hclass)
  all_goals
    obtain ⟨c, ok, cid, cchannel, croute⟩ :=
      Ring.checkAdd_ok (a := a) ⟨hid, hchannel, hends, differ hsame⟩ hcodes hclass
  · exact refuse (serveAdd_taken parse idle geo ok (cid ▸ htaken))
  all_goals
    have clashes_iff (d : Circuit) :
        clashes d ↔ d.channel = c.channel ∧ r.overlap (r.circuitRoute d) (r.circuitRoute c) = true := by
      rw [cchannel, croute]
      exact Iff.rfl
  · cases found : r.clashing s.table.circuits c with
    | none => exact absurd (by simpa only [clashes_iff] using hclash) ((r.clashing_eq_none_iff _ c).mp found)
    | some d =>
      obtain ⟨hd, before, after, split, earlier⟩ := (r.clashing_eq_some_iff _ c d).mp found
      exact ⟨before, d, after, split, (clashes_iff d).mpr hd, fun e he => (clashes_iff e).not.mpr (earlier e he),
        refuse (serveAdd_clash parse idle geo ok (cid ▸ htaken) found)⟩
  · intro full
    have clear : r.clashing s.table.circuits c = none := by
      rw [Ring.clashing_eq_none_iff]
      simpa only [clashes_iff] using hclash
    exact refuse (serveAdd_full parse idle geo ok (cid ▸ htaken) clear full)

/-! ### RETIRE (R31) -/

section Retire

variable {s : State} {i1 i0 : Byte}

theorem serveRetire_invalid (idle : s.sweeping = false) (h : 4095 < wordOf i1 i0) :
    serveRetire [i1, i0] s = (s, Reply.invalid .value) := by
  simp [serveRetire, parseId, idle, h]

theorem serveRetire_absent (idle : s.sweeping = false) (id : ¬4095 < wordOf i1 i0)
    (h : s.table.find (wordOf i1 i0) = none) : serveRetire [i1, i0] s = (s, Reply.plain .absent) := by
  simp [serveRetire, parseId, idle, id, h]

theorem serveRetire_done {c : Circuit} (idle : s.sweeping = false) (id : ¬4095 < wordOf i1 i0)
    (h : s.table.find (wordOf i1 i0) = some c) :
    serveRetire [i1, i0] s = (s.retireCircuit c, Reply.done (idBytes (wordOf i1 i0) ++ [byteOf c.channel])) := by
  simp [serveRetire, parseId, idle, id, h]

end Retire

/-- The two bytes of a field read back as they stood. -/
theorem wordBytes_wordOf (high low : Byte) : wordBytes (wordOf high low) = [high, low] := by
  have hh : byteOf (wordOf high low / 256) = high := by
    apply BitVec.eq_of_toNat_eq
    simp [byteOf, wordOf]
    omega
  have hl : byteOf (wordOf high low) = low := by
    apply BitVec.eq_of_toNat_eq
    simp [byteOf, wordOf, Nat.mod_eq_of_lt low.isLt]
  rw [wordBytes, hh, hl]

/-- With no sweep running a trigger starts one (R133). -/
theorem State.trigger_of_idle {s : State} (idle : s.sweeping = false) : s.trigger = s.startSweep 0 := by
  simp [State.trigger, idle]

/-- Where ids are unique, taking out an id takes out one record and leaves the others in their places. -/
theorem filter_id_ne_of_nodup {before after : List Circuit} {c : Circuit}
    (unique : ((before ++ c :: after).map (·.id)).Nodup) :
    (before ++ c :: after).filter (fun d => d.id != c.id) = before ++ after := by
  rw [List.map_append, List.map_cons, List.nodup_middle, ← List.map_append, List.nodup_cons] at unique
  have others : ∀ d ∈ before ++ after, (d.id != c.id) = true := fun d hd =>
    bne_iff_ne.mpr fun same => unique.1 (same ▸ List.mem_map_of_mem hd)
  rw [List.filter_append, List.filter_cons, if_neg (by simp), ← List.filter_append, List.filter_eq_self.mpr others]

/-- An accepted RETIRE while no sweep runs: the table without the record, and a sweep from channel 0 (R31, R133). -/
theorem State.retireCircuit_of_idle {s : State} (idle : s.sweeping = false) (c : Circuit) :
    s.retireCircuit c = (s.setTable { circuits := s.table.circuits.filter fun d => d.id != c.id,
                                      cursor := disturb s.table.cursor c.channel }).startSweep 0 :=
  State.trigger_of_idle idle

theorem retireCircuit_only_of_idle {s : State} (idle : s.sweeping = false) (c : Circuit) :
    onlyChanges [.table, .plan] s (s.retireCircuit c) := by
  rw [State.retireCircuit_of_idle idle]
  exact onlyChanges_chain (setTable_only s _) (startSweep_only _ _) (by decide) (by decide)

theorem State.retireCircuit_circuits {s : State} (idle : s.sweeping = false) (c : Circuit) :
    (s.retireCircuit c).table.circuits = s.table.circuits.filter fun d => d.id != c.id := by
  rw [State.retireCircuit_of_idle idle]
  rfl

theorem State.retireCircuit_cursor {s : State} (idle : s.sweeping = false) (c : Circuit) :
    (s.retireCircuit c).table.cursor = disturb s.table.cursor c.channel := by
  rw [State.retireCircuit_of_idle idle]
  rfl

theorem State.retireCircuit_starts_sweep {s : State} (idle : s.sweeping = false) (c : Circuit) :
    sweepStarted s (s.retireCircuit c) := by
  rw [State.retireCircuit_of_idle idle]
  rfl

/-- Settles O12: where ids are unique, the record the id index finds is the only one with its id, and it is the one taken
out. -/
theorem retireRemovesRecord : Obligations.RetireRemovesRecord := by
  unfold Obligations.RetireRemovesRecord
  intro s i1 i0 ready idle sound id
  have fits : [i1, i0].length ≤ longestBody := by simp [longestBody]
  have refuse {reply : Reply}
      (h : serveRetire [i1, i0] (s.deliver (.retire [i1, i0])) = (s.deliver (.retire [i1, i0]), reply)) :
      AnswersOnly (.retire [i1, i0]) s 0x12#8 reply.code reply.body :=
    answersOnly_of_service rfl ready fits h
  split_ifs with hid hpresent
  · exact refuse (serveRetire_invalid idle hid)
  · intro c hc cid
    have found : s.table.find id = some c := cid ▸ CircuitTable.find_of_mem sound.ids_nodup hc
    obtain ⟨before, after, parts⟩ := List.append_of_mem hc
    obtain ⟨loaded, rdy⟩ := ready
    let t := s.deliver (.retire [i1, i0])
    have idle : t.sweeping = false := idle
    have circuits := State.retireCircuit_circuits idle c
    refine answers_of_service (u := t.retireCircuit c) rfl (by simp [loaded]) rdy fits (locks_of_loaded loaded _ _)
      (serveRetire_done idle hid found) (retireCircuit_only_of_idle idle c)
      (retireCircuit_only_of_idle idle c .mgmt (by decide)) ?_
      ⟨⟨before, after, parts, ?_⟩, ?_, State.retireCircuit_cursor idle c, State.retireCircuit_starts_sweep idle c⟩
    · exact congrArg (· ++ [byteOf c.channel]) (wordBytes_wordOf i1 i0)
    · rw [State.answer_table, circuits, State.deliver_table, parts]
      exact filter_id_ne_of_nodup (parts ▸ sound.ids_nodup)
    · intro d hd
      rw [State.answer_table, circuits, List.mem_filter] at hd
      exact cid ▸ bne_iff_ne.mp hd.2
  · exact refuse (serveRetire_absent idle hid ((s.table.find_eq_none_iff id).mpr hpresent))

end Sys2Proof.Machine
end

section
/-!
Proofs about the served set and the node role (section 5.5 and R89): the report order picks one span among those on a ring
of three or more, the cases of R86, and the roles.
-/

namespace Sys2Proof.Machine

/-! ### The ends of a span (R5) -/

theorem Ring.idAt_inj {r : Ring} (sound : r.sound) {p q : Nat} (hp : p < r.size) (hq : q < r.size)
    (h : r.idAt p = r.idAt q) : p = q := by
  obtain ⟨-, -, -, unique, -⟩ := sound
  rw [Ring.idAt, Ring.idAt, List.getD_eq_getElem _ _ hp, List.getD_eq_getElem _ _ hq] at h
  exact (unique.getElem_inj_iff).mp h

theorem Ring.next_lt {r : Ring} (sound : r.sound) (p : Nat) : r.next p < r.size :=
  Nat.mod_lt _ (Nat.lt_of_lt_of_le (by decide) sound.1)

theorem Ring.next_eq {r : Ring} {p : Nat} (hp : p < r.size) : r.next p = if p + 1 = r.size then 0 else p + 1 := by
  unfold Ring.next
  split_ifs with last
  · rw [last, Nat.mod_self]
  · exact Nat.mod_eq_of_lt (by omega)

/-- On a ring of three or more, two positions are not each eastward of the other. -/
theorem Ring.next_next_ne {r : Ring} (sound : r.sound) {p : Nat} (hp : p < r.size) : r.next (r.next p) ≠ p := by
  have three : 3 ≤ r.size := sound.1
  rw [Ring.next_eq (Ring.next_lt sound p), Ring.next_eq hp]
  grind

/-- Two different spans cannot share both end ids (R87): they would be joined either at the same west end, or each at the
other's east end. -/
theorem Ring.span_eq_of_ends {r : Ring} (sound : r.sound) {a b : Nat} (ha : a < r.size) (hb : b < r.size)
    (lower : r.lowerId a = r.lowerId b) (other : r.otherId a = r.otherId b) : a = b := by
  have ends : r.westId a = r.westId b ∨ (r.westId a = r.eastId b ∧ r.eastId a = r.westId b) := by
    unfold Ring.lowerId Ring.otherId at *
    omega
  obtain west | ⟨west, east⟩ := ends
  · exact Ring.idAt_inj sound ha hb west
  · have ab : a = r.next b := Ring.idAt_inj sound ha (Ring.next_lt sound b) west
    have ba : r.next a = b := Ring.idAt_inj sound (Ring.next_lt sound a) hb east
    exact absurd (ba ▸ ab.symm) (Ring.next_next_ne sound ha)

/-! ### The report order (R87) -/

theorem Kind.code_inj {j k : Kind} : j.code = k.code ↔ j = k := by
  cases j <;> cases k <;> decide

theorem Ring.reportedBefore_iff (r : Ring) (a b : ServedEntry) :
    r.reportedBefore a b = true ↔ b.kind.code < a.kind.code ∨ (a.kind = b.kind ∧
      (r.lowerId a.span < r.lowerId b.span ∨
        (r.lowerId a.span = r.lowerId b.span ∧ r.otherId a.span < r.otherId b.span))) := by
  simp [Ring.reportedBefore]

theorem Ring.not_reportedBefore_self (r : Ring) (a : ServedEntry) : ¬r.reportedBefore a a = true := by
  rw [Ring.reportedBefore_iff]
  omega

theorem Ring.reportedBefore_trans {r : Ring} {a b c : ServedEntry} (ab : r.reportedBefore a b = true)
    (bc : r.reportedBefore b c = true) : r.reportedBefore a c = true := by
  simp only [Ring.reportedBefore_iff, ← Kind.code_inj] at *
  omega

/-- Of two spans of a ring, one comes first in report order. -/
theorem Ring.reportedBefore_total {r : Ring} (sound : r.sound) {a b : ServedEntry} (ha : a.span < r.size)
    (hb : b.span < r.size) (ne : a.span ≠ b.span) : r.reportedBefore a b = true ∨ r.reportedBefore b a = true := by
  have differ : r.lowerId a.span = r.lowerId b.span → r.otherId a.span ≠ r.otherId b.span :=
    fun lower other => ne (Ring.span_eq_of_ends sound ha hb lower other)
  simp only [Ring.reportedBefore_iff, ← Kind.code_inj]
  omega

@[simp] theorem Ring.mem_insertReported (r : Ring) (e f : ServedEntry) (l : List ServedEntry) :
    f ∈ r.insertReported e l ↔ f = e ∨ f ∈ l := by
  induction l with
  | nil => simp [Ring.insertReported]
  | cons g rest ih =>
    unfold Ring.insertReported
    split_ifs
    · exact List.mem_cons
    · rw [List.mem_cons, ih, List.mem_cons]
      exact or_left_comm

@[simp] theorem Ring.mem_reportOrder (r : Ring) (f : ServedEntry) (l : List ServedEntry) :
    f ∈ r.reportOrder l ↔ f ∈ l := by
  induction l with
  | nil => rfl
  | cons e rest ih => rw [Ring.reportOrder, List.foldr_cons, r.mem_insertReported, List.mem_cons, ← ih]; rfl

theorem Ring.reportOrder_eq_nil_iff (r : Ring) (l : List ServedEntry) : r.reportOrder l = [] ↔ l = [] := by
  simp only [List.eq_nil_iff_forall_not_mem, Ring.mem_reportOrder]

/-- No entry of a list comes before the first in report order. -/
theorem Ring.not_reportedBefore_head {r : Ring} {l rest : List ServedEntry} {m : ServedEntry}
    (h : r.reportOrder l = m :: rest) : ∀ f ∈ l, ¬r.reportedBefore f m = true := by
  induction l generalizing m rest with
  | nil => simp
  | cons e l ih =>
    change r.insertReported e (r.reportOrder l) = m :: rest at h
    cases tail : r.reportOrder l with
    | nil =>
      obtain rfl := (r.reportOrder_eq_nil_iff l).mp tail
      obtain ⟨rfl, -⟩ : e = m ∧ [] = rest := by simpa [tail, Ring.insertReported] using h
      simpa using r.not_reportedBefore_self e
    | cons n rest' =>
      have least := ih tail
      rw [tail, Ring.insertReported] at h
      split_ifs at h with before
      · obtain ⟨rfl, -⟩ := List.cons.inj h
        exact List.forall_mem_cons.mpr
          ⟨r.not_reportedBefore_self e, fun f hf fe => least f hf (Ring.reportedBefore_trans fe before)⟩
      · obtain ⟨rfl, -⟩ := List.cons.inj h
        exact List.forall_mem_cons.mpr ⟨before, least⟩

/-- Where the report order ranks any two entries of a list, the first is the one that comes before all others. -/
theorem Ring.mem_take_one_reportOrder {r : Ring} {l : List ServedEntry}
    (ranked : ∀ a ∈ l, ∀ b ∈ l, a ≠ b → r.reportedBefore a b = true ∨ r.reportedBefore b a = true) (e : ServedEntry) :
    e ∈ (r.reportOrder l).take 1 ↔ e ∈ l ∧ ∀ f ∈ l, f ≠ e → r.reportedBefore e f = true := by
  cases order : r.reportOrder l with
  | nil => simp [(r.reportOrder_eq_nil_iff l).mp order]
  | cons m rest =>
    have least := Ring.not_reportedBefore_head order
    have hm : m ∈ l := (r.mem_reportOrder m l).mp (order ▸ List.mem_cons_self)
    rw [List.take_succ_cons, List.take_zero, List.mem_singleton]
    constructor
    · rintro rfl
      exact ⟨hm, fun f hf ne => (ranked f hf e hm ne).resolve_left (least f hf)⟩
    · rintro ⟨he, first⟩
      by_contra ne
      exact least e he (first m hm (Ne.symm ne))

/-! ### The cases of R86 -/

theorem Kind.segmenting_iff (k : Kind) : k.segmenting = true ↔ k = .force ∨ k = .dark := by
  simp [Kind.segmenting]

theorem Kind.singleSpan_iff (k : Kind) : k.singleSpan = true ↔ k = .dim ∨ k = .ask ∨ k = .settle := by
  simp [Kind.singleSpan, or_assoc]

section Cases

variable {r : Ring} {entries : List ServedEntry}

theorem Ring.servedSet_of_bar (bar : ∃ f ∈ entries, f.kind = .bar) :
    r.servedSet entries = entries.filter fun e => e.kind == .bar :=
  if_pos (by simpa using bar)

theorem Ring.servedSet_of_segmenting (bar : ¬∃ f ∈ entries, f.kind = .bar)
    (segmenting : ∃ f ∈ entries, f.kind.segmenting = true) :
    r.servedSet entries = entries.filter fun e => e.kind.segmenting :=
  (if_neg (by simpa using bar)).trans (if_pos (by simpa using segmenting))

/-- The third case covers the fourth: where no kind is single-span either, no span is first. -/
theorem Ring.servedSet_of_single (bar : ¬∃ f ∈ entries, f.kind = .bar)
    (segmenting : ¬∃ f ∈ entries, f.kind.segmenting = true) :
    r.servedSet entries = (r.reportOrder (entries.filter fun e => e.kind.singleSpan)).take 1 :=
  (if_neg (by simpa using bar)).trans (if_neg (by simpa using segmenting))

theorem Ring.servedSet_subset : r.servedSet entries ⊆ entries := by
  intro e he
  unfold Ring.servedSet at he
  split_ifs at he
  · exact List.mem_of_mem_filter he
  · exact List.mem_of_mem_filter he
  · exact List.mem_of_mem_filter ((r.mem_reportOrder e _).mp (List.mem_of_mem_take he))

end Cases

/-! ### A pass of the derivation (R85) -/

/-- The entry a span would have in the served set of a pass: the span with the kind its record is left with. -/
def Hearing.entryOn (h : Hearing) (sides : Pair LocalRequest) (span : Nat) : ServedEntry :=
  { span := span, kind := (((h.derivePass sides).records[span]?).map (·.kind)).getD .quiet }

section Pass

variable {h : Hearing} {sides : Pair LocalRequest}

theorem Hearing.derivePass_length : (h.derivePass sides).records.length = h.ring.size := by
  simp [Hearing.derivePass]

/-- A pass leaves the record of each span with its served mark set (R85, step 2). -/
theorem Hearing.derivePass_record {i : Nat} (hi : i < h.ring.size) :
    (h.derivePass sides).records[i]? =
      some { h.record sides i with served := (h.derivePass sides).served.any fun e => e.span == i } := by
  simp [Hearing.derivePass, hi]

/-- The served set of a pass is formed from the kinds its records are left with. -/
theorem Hearing.kinds_eq_map_entryOn : h.kinds sides = (List.range h.ring.size).map (h.entryOn sides) := by
  refine List.map_congr_left fun i hi => ?_
  rw [Hearing.entryOn, Hearing.derivePass_record (List.mem_range.mp hi)]
  rfl

theorem Hearing.mem_kinds_iff {e : ServedEntry} :
    e ∈ h.kinds sides ↔ e.span < h.ring.size ∧ e = h.entryOn sides e.span := by
  rw [Hearing.kinds_eq_map_entryOn]
  constructor
  · intro he
    obtain ⟨i, hi, rfl⟩ := List.mem_map.mp he
    exact ⟨List.mem_range.mp hi, rfl⟩
  · rintro ⟨hs, he⟩
    exact he ▸ List.mem_map_of_mem (List.mem_range.mpr hs)

theorem Hearing.exists_mem_kinds_iff {P : ServedEntry → Prop} :
    (∃ f ∈ h.kinds sides, P f) ↔ ∃ i < h.ring.size, P (h.entryOn sides i) := by
  simp [Hearing.kinds_eq_map_entryOn]

theorem Hearing.forall_mem_kinds_iff {P : ServedEntry → Prop} :
    (∀ f ∈ h.kinds sides, P f) ↔ ∀ i < h.ring.size, P (h.entryOn sides i) := by
  simp [Hearing.kinds_eq_map_entryOn]

theorem Hearing.entryOn_inj {i j : Nat} : h.entryOn sides i = h.entryOn sides j ↔ i = j :=
  ⟨congrArg ServedEntry.span, congrArg _⟩

theorem Hearing.kinds_ranked (sound : h.ring.sound) {a b : ServedEntry} (ha : a ∈ h.kinds sides)
    (hb : b ∈ h.kinds sides) (ne : a ≠ b) : h.ring.reportedBefore a b = true ∨ h.ring.reportedBefore b a = true := by
  obtain ⟨hsa, ea⟩ := Hearing.mem_kinds_iff.mp ha
  obtain ⟨hsb, eb⟩ := Hearing.mem_kinds_iff.mp hb
  refine Ring.reportedBefore_total sound hsa hsb fun same => ne ?_
  rw [ea, eb, same]

/-- A span is served as the first case of R86 that applies says. -/
theorem Hearing.entryOn_mem_served_iff (sound : h.ring.sound) {span : Nat} (hs : span < h.ring.size) :
    h.entryOn sides span ∈ (h.derivePass sides).served ↔
      if ∃ i < h.ring.size, (h.entryOn sides i).kind = .bar then (h.entryOn sides span).kind = .bar
      else if ∃ i < h.ring.size, (h.entryOn sides i).kind.segmenting = true then
        (h.entryOn sides span).kind.segmenting = true
      else (h.entryOn sides span).kind.singleSpan = true ∧
        ∀ i < h.ring.size, (h.entryOn sides i).kind.singleSpan = true → i ≠ span →
          h.ring.reportedBefore (h.entryOn sides span) (h.entryOn sides i) = true := by
  have here : h.entryOn sides span ∈ h.kinds sides := Hearing.mem_kinds_iff.mpr ⟨hs, rfl⟩
  change _ ∈ h.ring.servedSet (h.kinds sides) ↔ _
  split_ifs with bar segmenting
  · rw [Ring.servedSet_of_bar (Hearing.exists_mem_kinds_iff.mpr bar)]
    simp [here]
  · rw [← Hearing.exists_mem_kinds_iff (P := (·.kind = .bar))] at bar
    rw [Ring.servedSet_of_segmenting bar (Hearing.exists_mem_kinds_iff.mpr segmenting)]
    simp [here]
  · rw [← Hearing.exists_mem_kinds_iff (P := (·.kind = .bar))] at bar
    rw [← Hearing.exists_mem_kinds_iff (P := (·.kind.segmenting = true))] at segmenting
    rw [Ring.servedSet_of_single bar segmenting, Ring.mem_take_one_reportOrder]
    · simp only [List.mem_filter, and_imp, here, true_and, Hearing.forall_mem_kinds_iff, ne_eq, Hearing.entryOn_inj]
    · intro a ha b hb
      exact Hearing.kinds_ranked sound (List.mem_of_mem_filter ha) (List.mem_of_mem_filter hb)

end Pass

/-! ### The node role (R89) -/

theorem Role.ne_of_switchesOn {role : Role} {x : Side} (on : role.switchesOn x = true) :
    role ≠ .barred ∧ role ≠ .passing ∧ role ≠ .idle := by
  refine ⟨?_, ?_, ?_⟩ <;> rintro rfl <;> cases on

section Roles

variable {r : Ring} {served : List ServedEntry}

theorem hasBar_iff : hasBar served = true ↔ ∃ e ∈ served, e.kind = .bar := by
  simp [hasBar]

theorem Ring.isServed_iff {x : Side} : r.isServed served x = true ↔ ∃ e ∈ served, e.span = r.facing x := by
  simp [Ring.isServed]

theorem Ring.roleFor_of_bar (bar : hasBar served = true) : r.roleFor served = .barred :=
  if_pos bar

theorem Ring.roleFor_of_free (free : hasBar served = false) : r.roleFor served =
    match r.isServed served .east, r.isServed served .west with
    | true, true => .switchingBoth
    | true, false => .switchingEast
    | false, true => .switchingWest
    | false, false => if served.isEmpty then .idle else .passing := by
  unfold Ring.roleFor
  rw [if_neg (by simp [free])]
  rfl

theorem Ring.switchesOn_of_free (free : hasBar served = false) (x : Side) :
    (r.roleFor served).switchesOn x = r.isServed served x := by
  rw [Ring.roleFor_of_free free]
  cases east : r.isServed served .east <;> cases west : r.isServed served .west
  case false.false => cases served.isEmpty <;> cases x <;> simp [Role.switchesOn, east, west]
  all_goals cases x <;> simp [Role.switchesOn, east, west]

theorem Ring.roleFor_of_elsewhere (free : hasBar served = false) (elsewhere : ∀ x, r.isServed served x = false) :
    r.roleFor served = if served = [] then .idle else .passing := by
  rw [Ring.roleFor_of_free free, elsewhere, elsewhere]
  cases served <;> rfl

/-- The rows of R89: a BAR, a local span served, other spans served, nothing served. -/
theorem Ring.roleFor_cases (r : Ring) (served : List ServedEntry) :
    (hasBar served = true ∧ r.roleFor served = .barred) ∨
    (hasBar served = false ∧ ∃ x, r.isServed served x = true ∧ (r.roleFor served).switchesOn x = true) ∨
    (hasBar served = false ∧ (∀ x, r.isServed served x = false) ∧ served ≠ [] ∧ r.roleFor served = .passing) ∨
    (served = [] ∧ r.roleFor served = .idle) := by
  cases bar : hasBar served with
  | true => exact .inl ⟨rfl, Ring.roleFor_of_bar bar⟩
  | false =>
    by_cases elsewhere : ∀ x, r.isServed served x = false
    · have role := Ring.roleFor_of_elsewhere bar elsewhere
      split_ifs at role with empty
      · exact .inr (.inr (.inr ⟨empty, role⟩))
      · exact .inr (.inr (.inl ⟨rfl, elsewhere, empty, role⟩))
    · push Not at elsewhere
      obtain ⟨x, hx⟩ := elsewhere
      have hx := Bool.eq_true_of_not_eq_false hx
      exact .inr (.inl ⟨rfl, x, hx, (Ring.switchesOn_of_free bar x).trans hx⟩)

theorem Ring.roleFor_eq_barred_iff : r.roleFor served = .barred ↔ hasBar served = true := by
  obtain ⟨bar, role⟩ | ⟨free, x, -, on⟩ | ⟨free, -, -, role⟩ | ⟨rfl, role⟩ := r.roleFor_cases served
  · simp [bar, role]
  · simp [free, Role.ne_of_switchesOn on]
  · simp [free, role]
  · simp [role, hasBar]

theorem Ring.roleFor_switchesOn_iff {x : Side} :
    (r.roleFor served).switchesOn x = true ↔ ¬hasBar served = true ∧ r.isServed served x = true := by
  cases bar : hasBar served with
  | true => simp [Ring.roleFor_of_bar bar, Role.switchesOn]
  | false => simp [Ring.switchesOn_of_free bar]

theorem Ring.roleFor_eq_passing_iff : r.roleFor served = .passing ↔
    served ≠ [] ∧ ¬hasBar served = true ∧ ¬r.isServed served .east = true ∧ ¬r.isServed served .west = true := by
  obtain ⟨bar, role⟩ | ⟨-, x, hx, on⟩ | ⟨free, elsewhere, nonempty, role⟩ | ⟨rfl, role⟩ := r.roleFor_cases served
  · simp [bar, role]
  · cases x <;> simp [hx, Role.ne_of_switchesOn on]
  · simp [free, elsewhere, nonempty, role]
  · simp [role]

theorem Ring.roleFor_eq_idle_iff : r.roleFor served = .idle ↔ served = [] := by
  obtain ⟨bar, role⟩ | ⟨-, x, hx, on⟩ | ⟨-, -, nonempty, role⟩ | ⟨rfl, role⟩ := r.roleFor_cases served
  · have nonempty : served ≠ [] := by rintro rfl; cases bar
    simp [role, nonempty]
  · have nonempty : served ≠ [] := by rintro rfl; cases hx
    simp [nonempty, Role.ne_of_switchesOn on]
  · simp [nonempty, role]
  · simp [role]

end Roles

/-- Settles O30: a span is served by the case of R86 that applies, the one span of the third case being the first in report
order; the role follows the rows of R89. -/
theorem servedSetAndRole : Obligations.ServedSetAndRole := by
  unfold Obligations.ServedSetAndRole
  refine ⟨fun h sides sound => ⟨Hearing.derivePass_length, rfl, fun e => ?_, fun i hi => ?_⟩, fun r served => ?_⟩
  · have servedIff (span : Nat) (hs : span < h.ring.size) := Hearing.entryOn_mem_served_iff (sides := sides) sound hs
    simp only [Kind.segmenting_iff, Kind.singleSpan_iff, Ring.reportedBefore_iff] at servedIff
    constructor
    · intro he
      obtain ⟨hs, entry⟩ := Hearing.mem_kinds_iff.mp (Ring.servedSet_subset he)
      rw [entry] at he ⊢
      exact ⟨hs, rfl, (servedIff _ hs).mp he⟩
    · rintro ⟨hs, kind, case⟩
      obtain ⟨span, k⟩ := e
      obtain rfl : k = (h.entryOn sides span).kind := kind
      exact (servedIff span hs).mpr case
  · rw [Hearing.derivePass_record hi]
    rfl
  · simp only [← hasBar_iff, ← Ring.isServed_iff]
    exact ⟨Ring.roleFor_eq_barred_iff, fun x => Ring.roleFor_switchesOn_iff, Ring.roleFor_eq_passing_iff,
      Ring.roleFor_eq_idle_iff⟩

end Sys2Proof.Machine
end

section
/-!
Proofs about the action of a circuit (section 7.5): an equation per case of Table 29, each under the premise that the
cases before it do not apply, and which circuits alone are restored.
-/

namespace Sys2Proof.Machine

/-- The island of a position under a served set (R113 to R115). -/
abbrev Ring.islandUnder (r : Ring) (served : List ServedEntry) (p : Nat) : Island :=
  r.islandOf (r.islands (switchedSpans served)) p

/-- Neither end of a route lies in the local island (case 4 of Table 29). -/
abbrev Ring.endsOutside (r : Ring) (served : List ServedEntry) (t : Route) : Prop :=
  r.islandUnder served t.source ≠ r.islandUnder served 0 ∧
    r.islandUnder served t.destination ≠ r.islandUnder served 0

/-! ### Switched spans and what a route meets (R113, section 7.4) -/

theorem switchedSpans_of_free {served : List ServedEntry} (free : hasBar served = false) :
    switchedSpans served = served.map (·.span) :=
  if_neg (by simp [free])

theorem Ring.meets_iff {r : Ring} {t : Route} {spans : List Nat} :
    r.meets t spans = true ↔ ∃ span ∈ spans, r.covers t span = true :=
  List.any_eq_true

theorem Ring.meets_switchedSpans_iff {r : Ring} {t : Route} {served : List ServedEntry} (free : hasBar served = false) :
    r.meets t (switchedSpans served) = true ↔ ∃ e ∈ served, r.covers t e.span = true := by
  rw [switchedSpans_of_free free, Ring.meets_iff]
  simp

/-- An action taken as CARRIED or DOWN is told apart by the dark spans its route covers (R118, R119, R121). -/
theorem Ring.down_or_carried {r : Ring} {snap : Snapshot} {t : Route} {a : Action} (h : a = r.carriedOrDown snap t) :
    ((∃ span ∈ snap.knownDark, r.covers t span = true) → a = .down) ∧
      (¬(∃ span ∈ snap.knownDark, r.covers t span = true) → a = .carried) := by
  rw [← Ring.meets_iff, h]
  exact ⟨fun dark => if_pos dark, fun dark => if_neg dark⟩

theorem Ring.carriedOrDown_ne_restored {r : Ring} {snap : Snapshot} {t : Route} {hops latency : Nat} {late : Bool} :
    r.carriedOrDown snap t ≠ .restored hops latency late := by
  unfold Ring.carriedOrDown
  split_ifs <;> simp

/-! ### The cases of Table 29 -/

section Table29

variable {r : Ring} {snap : Snapshot} {c : Circuit}

theorem Ring.actionOf_of_bar (bar : hasBar snap.served = true) :
    r.actionOf snap c = r.carriedOrDown snap (r.circuitRoute c) :=
  if_pos bar

variable (free : hasBar snap.served = false)
include free

theorem Ring.actionOf_of_extra (extra : c.cls = .extra) :
    r.actionOf snap c = if snap.served = [] then r.carriedOrDown snap (r.circuitRoute c) else .preempted := by
  simp [Ring.actionOf, free, extra]

variable (working : c.cls ≠ .extra)
include working

theorem Ring.actionOf_of_unmet (unmet : ¬∃ e ∈ snap.served, r.covers (r.circuitRoute c) e.span = true) :
    r.actionOf snap c = .carried := by
  rw [← Ring.meets_switchedSpans_iff free] at unmet
  simp [Ring.actionOf, free, working, unmet]

variable (met : ∃ e ∈ snap.served, r.covers (r.circuitRoute c) e.span = true)
include met

theorem Ring.actionOf_of_outside (outside : r.endsOutside snap.served (r.circuitRoute c)) :
    r.actionOf snap c = .outside := by
  rw [← Ring.meets_switchedSpans_iff free] at met
  simp [Ring.actionOf, free, working, met, outside]

variable (inside : ¬r.endsOutside snap.served (r.circuitRoute c))
include inside

theorem Ring.actionOf_of_bare (bare : c.cls = .bare) :
    r.actionOf snap c = r.carriedOrDown snap (r.circuitRoute c) := by
  rw [← Ring.meets_switchedSpans_iff free] at met
  unfold Ring.actionOf
  rw [if_neg (by simp [free]), if_neg working, if_neg (by simp [met]), if_neg inside, if_pos bare]

theorem Ring.actionOf_of_divided (protectable : c.cls ≠ .bare)
    (divided : r.islandUnder snap.served (r.circuitRoute c).source ≠
      r.islandUnder snap.served (r.circuitRoute c).destination) :
    r.actionOf snap c = .squelched .islands := by
  rw [← Ring.meets_switchedSpans_iff free] at met
  unfold Ring.actionOf
  rw [if_neg (by simp [free]), if_neg working, if_neg (by simp [met]), if_neg inside, if_neg protectable]
  simp only [if_neg divided.symm]
  split <;> rfl

end Table29

/-- The last sentence of R122: each case but the last leaves a circuit that is not restored. -/
theorem Ring.prot_of_restored {r : Ring} {snap : Snapshot} {c : Circuit} {hops latency : Nat} {late : Bool}
    (restored : r.actionOf snap c = .restored hops latency late) :
    c.cls = .prot ∧ r.islandUnder snap.served (r.circuitRoute c).source =
      r.islandUnder snap.served (r.circuitRoute c).destination := by
  cases free : hasBar snap.served with
  | true => exact absurd (Ring.actionOf_of_bar free ▸ restored) Ring.carriedOrDown_ne_restored
  | false =>
    have working : c.cls ≠ .extra := by
      intro extra
      rw [Ring.actionOf_of_extra free extra] at restored
      split_ifs at restored
      exact Ring.carriedOrDown_ne_restored restored
    have met : ∃ e ∈ snap.served, r.covers (r.circuitRoute c) e.span = true := by
      by_contra unmet
      cases (Ring.actionOf_of_unmet free working unmet).symm.trans restored
    have inside : ¬r.endsOutside snap.served (r.circuitRoute c) := by
      intro outside
      cases (Ring.actionOf_of_outside free working met outside).symm.trans restored
    have protectable : c.cls ≠ .bare := by
      intro bare
      exact Ring.carriedOrDown_ne_restored ((Ring.actionOf_of_bare free working met inside bare).symm.trans restored)
    refine ⟨?_, ?_⟩
    · cases cls : c.cls with
      | prot => rfl
      | bare => exact absurd cls protectable
      | extra => exact absurd cls working
    · by_contra divided
      cases (Ring.actionOf_of_divided free working met inside protectable divided).symm.trans restored

/-- Settles O37: each clause is the equation of its case; the last is `Ring.prot_of_restored`. -/
theorem actionsByClass : Obligations.ActionsByClass := by
  unfold Obligations.ActionsByClass
  intro r snap c
  simp only [← hasBar_iff, Bool.not_eq_true]
  refine ⟨fun bar => Ring.down_or_carried (Ring.actionOf_of_bar bar), fun free extra => ?_, Ring.actionOf_of_unmet,
    Ring.actionOf_of_outside, ?_, ?_, fun _ _ _ => Ring.prot_of_restored⟩
  · have action := Ring.actionOf_of_extra (r := r) free extra
    exact ⟨fun served => action.trans (if_neg served), fun idle => Ring.down_or_carried (action.trans (if_pos idle))⟩
  · intro free bare met inside
    exact Ring.down_or_carried (Ring.actionOf_of_bare free (by simp [bare]) met inside bare)
  · intro free prot met inside
    exact Ring.actionOf_of_divided free (by simp [prot]) met inside (by simp [prot])

end Sys2Proof.Machine
end

section
/-!
Proofs about sweep triggers (sections 8.1 and 8.3): an equation of `State.trigger` per case of R133, R136 and R137.
-/

namespace Sys2Proof.Machine

theorem State.sweeping_eq_false_iff {s : State} : s.sweeping = false ↔ s.plan.sweep = none := by
  simp [State.sweeping]

theorem State.sweeping_of_ne_none {s : State} (runs : s.plan.sweep ≠ none) : s.sweeping = true :=
  Option.isSome_iff_ne_none.mpr runs

/-- The start of a sweep changes nothing that a snapshot reads (R134). -/
theorem State.startSweep_snapshot (s : State) (n : Nat) : (s.startSweep n).snapshot = s.snapshot :=
  s.setPlan_snapshot _

theorem State.startSweep_plan (s : State) (n : Nat) :
    (s.startSweep n).plan =
      { s.plan with sweep := some { snapshot := (s.startSweep n).snapshot, channel := 0 }, restarts := n } := by
  rw [State.startSweep_snapshot]
  rfl

theorem State.startSweep_attention (s : State) (n : Nat) : (s.startSweep n).attention = s.attention := rfl

/-! ### A trigger while a sweep runs -/

/-- Below the limit a running sweep is restarted (R136). -/
theorem State.trigger_of_below {s : State} (runs : s.sweeping = true) (below : s.plan.restarts < 4) :
    s.trigger = s.startSweep (s.plan.restarts + 1) := by
  simp [State.trigger, runs, below]

/-- At the limit a follow-up that is due already leaves the trigger nothing to do (R137). -/
theorem State.trigger_of_due {s : State} (runs : s.sweeping = true) (limit : ¬s.plan.restarts < 4)
    (due : s.plan.followUp = true) : s.trigger = s := by
  simp [State.trigger, runs, limit, due]

/-- At the limit the first trigger makes the follow-up due and reports RESTART-LIMIT (R137). -/
theorem State.trigger_of_limit {s : State} (runs : s.sweeping = true) (limit : ¬s.plan.restarts < 4)
    (fresh : ¬s.plan.followUp = true) :
    s.trigger = (s.setPlan { s.plan with followUp := true }).report .protocol .restartLimit 0 := by
  simp [State.trigger, runs, limit, fresh]

/-- Every trigger does what its case of R133, R136 or R137 says. -/
theorem State.trigger_triggered (s : State) : triggered s s.trigger := by
  unfold triggered
  split
  next idle =>
    rw [State.trigger_of_idle (State.sweeping_eq_false_iff.mpr idle)]
    exact ⟨s.startSweep_plan 0, s.startSweep_attention 0⟩
  next busy =>
    have runs := State.sweeping_of_ne_none busy
    split
    next below =>
      rw [State.trigger_of_below runs below]
      exact ⟨s.startSweep_plan _, s.startSweep_attention _⟩
    next limit =>
      split
      next due =>
        rw [State.trigger_of_due runs limit due]
        exact ⟨rfl, rfl⟩
      next fresh =>
        rw [State.trigger_of_limit runs limit fresh]
        exact ⟨rfl, rfl⟩

/-- Settles O33: what a trigger does is `State.trigger_triggered`, what it leaves is `trigger_only`. -/
theorem triggerStartsOrRestarts : Obligations.TriggerStartsOrRestarts := by
  unfold Obligations.TriggerStartsOrRestarts
  exact fun s => ⟨s.trigger_triggered, trigger_only s⟩

end Sys2Proof.Machine
end

section
/-!
Proofs about the Attention Unit (chapter 10): the groups of a set of flags or records read and written apart, what a fault
report does to a clear and to an occupied record, and ATTN as a statement about the groups.
-/

namespace Sys2Proof.Machine

/-! ### Flags and records by group -/

theorem Causes.ofGroup_setGroup (c : Causes) (g h : FaultGroup) (b : Bool) :
    (c.setGroup g b).ofGroup h = if h = g then b else c.ofGroup h := by
  cases g <;> cases h <;> rfl

@[simp] theorem Causes.setGroup_plan (c : Causes) (g : FaultGroup) (b : Bool) : (c.setGroup g b).plan = c.plan := by
  cases g <;> rfl

theorem FaultRecords.ofGroup_setGroup (r : FaultRecords) (g h : FaultGroup) (x : Option FaultRecord) :
    (r.setGroup g x).ofGroup h = if h = g then x else r.ofGroup h := by
  cases g <;> cases h <;> rfl

/-! ### Fault reports (R172) -/

theorem Attention.report_of_clear {a : Attention} {g : FaultGroup} (kind : FaultKind) (detail : Nat)
    (clear : a.records.ofGroup g = none) :
    a.report g kind detail =
      { a with records := a.records.setGroup g (some ⟨kind, detail⟩), causes := a.causes.setGroup g true } := by
  simp [Attention.report, clear]

theorem Attention.report_of_occupied {a : Attention} {g : FaultGroup} (kind : FaultKind) (detail : Nat)
    (occupied : a.records.ofGroup g ≠ none) : a.report g kind detail = { a with moreFaults := true } := by
  obtain ⟨record, held⟩ := Option.ne_none_iff_exists'.mp occupied
  simp [Attention.report, held]

/-! ### ATTN (R174) -/

theorem FaultGroup.exists_iff {p : FaultGroup → Prop} :
    (∃ g, p g) ↔ p .linkE ∨ p .linkW ∨ p .protocol ∨ p .fabric ∨ p .mgmt ∨ p .load := by
  constructor
  · rintro ⟨g, hg⟩
    cases g <;> simp [hg]
  · rintro (hg | hg | hg | hg | hg | hg) <;> exact ⟨_, hg⟩

/-- ATTN is asserted while PLAN, or the cause of some group, is raised with its mask enabled. -/
theorem Attention.attn_iff (a : Attention) :
    a.attn = true ↔ (a.causes.plan = true ∧ a.masks.plan = true) ∨
      ∃ g : FaultGroup, a.causes.ofGroup g = true ∧ a.masks.ofGroup g = true := by
  simp [Attention.attn, FaultGroup.exists_iff, Causes.ofGroup, or_assoc]

/-- Settles O51: the two cases of a report are `Attention.report_of_clear` and `Attention.report_of_occupied`, ATTN is
`Attention.attn_iff`. -/
theorem faultReportsDriveAttn : Obligations.FaultReportsDriveAttn := by
  unfold Obligations.FaultReportsDriveAttn
  refine ⟨fun a g kind detail => ?_, fun s => s.attention.attn_iff⟩
  by_cases clear : a.records.ofGroup g = none
  · rw [Attention.report_of_clear kind detail clear]
    refine ⟨fun _ => ⟨?_, ?_, rfl⟩, fun occupied => absurd clear occupied, rfl, ?_, fun h other => ⟨?_, ?_⟩⟩
    · exact (FaultRecords.ofGroup_setGroup ..).trans (if_pos rfl)
    · exact (Causes.ofGroup_setGroup ..).trans (if_pos rfl)
    · exact Causes.setGroup_plan ..
    · exact (FaultRecords.ofGroup_setGroup ..).trans (if_neg other)
    · exact (Causes.ofGroup_setGroup ..).trans (if_neg other)
  · rw [Attention.report_of_occupied kind detail clear]
    exact ⟨fun empty => absurd empty clear, fun _ => ⟨rfl, rfl, rfl⟩, rfl, rfl, fun _ _ => ⟨rfl, rfl⟩⟩

end Sys2Proof.Machine
end

section
/-!
What a command can do, said once: a service of the management port leaves the part as it stands or runs one operation of
the block that owns the request, and a command is one of the part's operations. The proofs of what every step keeps go
through these two case lists and do not walk through the services again.
-/

namespace Sys2Proof.Machine

/-! ### What a service may do -/

/-- What a service may leave of the part it is handed, by the request code: the part as it stands, or the result of one
operation, with what its checks have shown (R27 to R31, R36, R156). -/
inductive Served (code : Byte) (s : State) : State → Prop
  | same : Served code s s
  | add {a : AddBody} {c : Circuit} (running : s.running = true) (bounded : a.ceiling ≤ 65535)
      (checked : s.geo.checkAdd a = .ok c) (new : s.table.find c.id = none)
      (clear : s.geo.clashing s.table.circuits c = none)
      (room : s.table.circuits.length < recordPlaces) : Served code s (s.addCircuit c)
  | edit {e : EditBody} {c : Circuit} {cls : CircuitClass} {policy : LatePolicy} (running : s.running = true)
      (bounded : e.ceiling ≤ 65535) (found : s.table.find e.id = some c)
      (agrees : c.cls.changesExtra (c.edited e cls policy).cls = false) :
      Served code s (s.editCircuit c (c.edited e cls policy))
  | retire {c : Circuit} (running : s.running = true) : Served code s (s.retireCircuit c)
  | walk {k : Cursor} (running : s.running = true) (window : s.table.cursor = some k ∨ k.sound) :
      Served code s (s.walkFrom k).1
  | delay {span delay : Nat} (running : s.running = true) (idle : s.sweeping = false) :
      Served code s (s.setDelay span delay)
  | operator {x : Side} {part : OperatorPart} (running : s.running = true) : Served code s (s.setOperator x part)
  | release {x : Side} (running : s.running = true) :
      Served code s (s.changeLocal x (s.requests.sides.get x).released)
  | settings {b : SettingsBody} (given : s.running = true ∨ b.marks.toNat % 64 = 1) (idle : s.sweeping = false) :
      Served code s (s.writeSettings b)
  | freeze {flag : Bool} (running : s.running = true) : Served code s (s.setFreezeFlag flag)
  | arm (running : s.running = true) : Served code s s.armPart
  | restart (named : code = 0x51#8) : Served code s s.softRestart
  | clear {a : Attention} {what : Byte} (cleared : s.attention.cleared what = some a) : Served code s (s.setAttention a)

section Services

variable {code : Byte} {s : State} {body : List Byte}

theorem wordOf_le (high low : Byte) : wordOf high low ≤ 65535 := by
  unfold wordOf
  omega

theorem parseEdit_ceiling {e : EditBody} (h : parseEdit body = some e) : e.ceiling ≤ 65535 := by
  unfold parseEdit at h
  split at h
  · split_ifs at h
    obtain rfl := Option.some.inj h
    exact wordOf_le _ _
  · cases h

theorem parseAdd_ceiling {a : AddBody} (h : parseAdd body = some a) : a.ceiling ≤ 65535 := by
  unfold parseAdd at h
  split at h
  · split_ifs at h
    obtain rfl := Option.some.inj h
    exact wordOf_le _ _
  · cases h

theorem serveAdd_served (running : s.running = true) : Served code s (serveAdd body s).1 := by
  unfold serveAdd
  cases parse : parseAdd body with
  | none => exact .same
  | some a =>
    dsimp only
    split
    · exact .same
    · cases checked : s.geo.checkAdd a with
      | error d => exact .same
      | ok c =>
        dsimp only
        split
        next => exact .same
        next new =>
          cases clear : s.geo.clashing s.table.circuits c with
          | some d => exact .same
          | none =>
            dsimp only
            split
            next => exact .same
            next room =>
              exact .add running (parseAdd_ceiling parse) checked (by simpa using new) clear (Nat.not_le.mp room)

theorem serveEdit_served (running : s.running = true) : Served code s (serveEdit body s).1 := by
  unfold serveEdit
  cases parse : parseEdit body with
  | none => exact .same
  | some e =>
    dsimp only
    split
    · exact .same
    · split
      · exact .same
      · split
        · exact .same
        · cases found : s.table.find e.id with
          | none => exact .same
          | some c =>
            dsimp only
            split
            next => exact .same
            next agrees => exact .edit running (parseEdit_ceiling parse) found (by simpa using agrees)

theorem serveRetire_served (running : s.running = true) : Served code s (serveRetire body s).1 := by
  unfold serveRetire
  cases parseId body with
  | none => exact .same
  | some id =>
    dsimp only
    split
    · exact .same
    · split
      · exact .same
      · cases s.table.find id with
        | none => exact .same
        | some c => exact .retire running

theorem serveWalk_served (running : s.running = true) : Served code s (serveWalk body s).1 := by
  unfold serveWalk
  split
  · split
    next => exact .same
    next lo hi flags window =>
      have fresh : (newCursor lo.toNat hi.toNat (bitOf flags 0)).sound := by
        simp only [Cursor.sound, newCursor]
        omega
      split
      next held => exact .walk running (.inl held)
      next => exact .walk running (.inr fresh)
  · exact .same

theorem serveSpanDelay_served (running : s.running = true) : Served code s (serveSpanDelay body s).1 := by
  unfold serveSpanDelay
  split
  · split
    next => exact .same
    next idle =>
      cases s.geo.positionOf _ with
      | none => exact .same
      | some span => exact .delay running (by simpa using idle)
  · exact .same

theorem serveOperator_served (running : s.running = true) : Served code s (serveOperator body s).1 := by
  have release (x : Side) : Served code s (s.releaseSide x).1 := by
    unfold State.releaseSide
    dsimp only
    split
    · exact .release running
    · exact .same
  have operate (x : Side) (part : OperatorPart) : Served code s (s.operate x part).1 := by
    unfold State.operate
    split
    · exact .same
    · exact .operator running
  unfold serveOperator
  split
  · split
    · exact release _
    · exact operate _ _
    · exact .same
  · exact .same

theorem parseSettings_marks {b : SettingsBody} (h : parseSettings body = some b) :
    givesMasksAlone body = (b.marks.toNat % 64 == 1) := by
  unfold parseSettings at h
  split at h
  · obtain rfl := Option.some.inj h
    rfl
  · cases h

theorem serveSettingsWrite_served (taken : s.running = true ∨ givesMasksAlone body = true) :
    Served code s (serveSettingsWrite body s).1 := by
  unfold serveSettingsWrite
  cases parse : parseSettings body with
  | none => exact .same
  | some b =>
    dsimp only
    split
    next => exact .same
    next idle =>
      refine .settings (taken.imp_right fun alone => ?_) (by simpa using idle)
      simpa [parseSettings_marks parse] using alone

theorem serveFreeze_served (running : s.running = true) : Served code s (serveFreeze body s).1 := by
  unfold serveFreeze
  split
  · split
    · exact .freeze running
    · exact .freeze running
    · exact .same
  · exact .same

theorem serveArm_served (running : s.running = true) : Served code s (serveArm body s).1 := by
  unfold serveArm
  split
  · exact .arm running
  · exact .same

theorem serveRestart_served (named : code = 0x51#8) : Served code s (serveRestart body s).1 := by
  unfold serveRestart
  split
  · exact .restart named
  · exact .same

theorem serveFaultClear_served : Served code s (serveFaultClear body s).1 := by
  unfold serveFaultClear
  split
  · cases cleared : s.attention.cleared _ with
    | none => exact .same
    | some a => exact .clear cleared
  · exact .same

/-- A service that answers from the state alone. -/
theorem served_of_state {service : Service} (h : (service body s).1 = s) : Served code s (service body s).1 :=
  h.symm ▸ .same

theorem taken_of_unlocked (unlocked : s.locks code body = false) : s.running = true ∨ takenUnloaded code body = true := by
  cases running : s.running <;> simp_all [State.locks]

/-- Every service leaves the part as it stands or runs the operation of its request. -/
theorem serviceOf_served {service : Service} (defined : serviceOf code = some service)
    (unlocked : s.locks code body = false) : Served code s (service body s).1 := by
  have taken := taken_of_unlocked unlocked
  have running (locked : takenUnloaded code body = false) : s.running = true :=
    taken.resolve_right (by simp [locked])
  unfold serviceOf at defined
  split at defined <;> simp only [Option.some.injEq, reduceCtorEq] at defined <;> subst defined
  next h => exact served_of_state (serveStatus_state body s)
  next h => exact serveAdd_served (running (by simp [takenUnloaded, h]))
  next h => exact serveEdit_served (running (by simp [takenUnloaded, h]))
  next h => exact serveRetire_served (running (by simp [takenUnloaded, h]))
  next h => exact served_of_state (serveRead_state body s)
  next h => exact served_of_state (serveChannelRead_state body s)
  next h => exact serveWalk_served (running (by simp [takenUnloaded, h]))
  next h => exact served_of_state (serveSpanRead_state body s)
  next h => exact serveSpanDelay_served (running (by simp [takenUnloaded, h]))
  next h => exact serveOperator_served (running (by simp [takenUnloaded, h]))
  next h => exact served_of_state (serveSettingsRead_state body s)
  next h => exact serveSettingsWrite_served (by simpa [takenUnloaded, h] using taken)
  next h => exact serveFreeze_served (running (by simp [takenUnloaded, h]))
  next h => exact serveArm_served (running (by simp [takenUnloaded, h]))
  next h => exact serveRestart_served (BitVec.eq_of_toNat_eq h)
  next h => exact served_of_state (serveFaultRead_state body s)
  next h => exact serveFaultClear_served

end Services

/-! ### What a command may do -/

/-- An event at the lines, the links, the timers, the sweep or the fabric. -/
inductive Happens (s : State) : State → Prop
  | receiver {x : Side} {r : Receiver} : Happens s ((s.setPins (s.pins.withReceiver x r)).formRaw x)
  | freezePin {asserted : Bool} : Happens s (s.takeFreezePin asserted)
  | period : Happens s s.beginPeriod
  | dimExpires {x : Side} : Happens s (s.dimExpires x)
  | darkExpires {x : Side} : Happens s (s.darkExpires x)
  | soakExpires {x : Side} : Happens s (s.soakExpires x)
  | receives {x : Side} {frame : List Byte} : Happens s (s.receive x frame)
  | linkExpires {x : Side} : Happens s (s.linkExpires x)
  | settleExpires {x : Side} : Happens s (s.settleExpires x)
  | echoExpires {x : Side} : Happens s (s.echoExpires x)
  | answerExpires {x : Side} : Happens s (s.answerExpires x)
  | completes : Happens s s.completeSweep
  | done {generation : Nat} : Happens s (s.takeDone generation)
  | fabricExpires : Happens s s.fabricExpires

/-- What a command may do: an event, a step of a reset or a load, or a window of the management port, with what is known of
the state where it is taken. -/
inductive Does (c : Instr) (s : State) : State → Prop
  | idle : Does c s s
  | reset : Does c s s.toReset
  | release (held : s.loader.load = .noLoad) : Does c s s.releaseReset
  | imageByte {value : Byte} (loading : s.loader.load = .loading) : Does c s (s.takeImageByte value)
  | loadFails {kind : FaultKind} {detail : Nat} (busy : s.loader.load = .loading ∨ s.loader.load = .checking) :
      Does c s (s.failLoad kind detail)
  | loads (checking : s.loader.load = .checking) (passed : imageFault s.loader.image = none) : Does c s s.finishLoad
  | happens {t : State} (event : Happens s t) : Does c s t
  | notReady {mdi : List Byte} : Does c s (s.notReadyWindow mdi)
  | shows : Does c s s.showAnswer
  | corrupt {i : Instr} (rdy : s.mgmt.rdy = true) : Does c s (s.corruptFrame i)
  | unknown {i : Instr} {code : Byte} (rdy : s.mgmt.rdy = true) :
      Does c s (((s.deliver i).report .mgmt .unknownRequest code.toNat).answer code (Reply.plain .unknown))
  | serves {i : Instr} {code : Byte} {u : State} {a : Reply} (rdy : s.mgmt.rdy = true)
      (named : code = 0x51#8 → carriesRestart c) (served : Served code (s.deliver i) u) : Does c s (u.answer code a)

section Commands

variable {c : Instr} {s : State}

/-- A request: a not-ready window, a bad frame, LOCKED, or what its service does (R153 to R156). -/
theorem request_does {i : Instr} {code : Byte} {body : List Byte} {service : Service}
    (defined : serviceOf code = some service) (named : code = 0x51#8 → carriesRestart c) :
    Does c s (s.request i code body service) := by
  unfold State.request
  split
  next => exact .notReady
  next rdy =>
    have rdy : s.mgmt.rdy = true := by simpa using rdy
    split
    next => exact .corrupt rdy
    next =>
      dsimp only [State.serve]
      split
      next => exact .serves rdy named .same
      next unlocked => exact .serves rdy named (serviceOf_served defined (by simpa using unlocked))

theorem takeFrame_does {i : Instr} {code : Byte} {body : List Byte} (named : code = 0x51#8 → carriesRestart c) :
    Does c s (s.takeFrame i code body) := by
  unfold State.takeFrame
  cases defined : serviceOf code with
  | some service => exact request_does defined named
  | none =>
    dsimp only [State.unknownCode]
    split
    next => exact .notReady
    next rdy =>
      have rdy : s.mgmt.rdy = true := by simpa using rdy
      split
      · exact .corrupt rdy
      · exact .unknown rdy

theorem takeWindow_does {i : Instr} {bytes : List Byte} {bits : Nat}
    (named : frameCode bytes = 0x51#8 → carriesRestart c) : Does c s (s.takeWindow i bytes bits) := by
  unfold State.takeWindow
  split
  next => exact .notReady
  next rdy =>
    have rdy : s.mgmt.rdy = true := by simpa using rdy
    split
    · exact .shows
    · split
      · exact .corrupt rdy
      · exact takeFrame_does named

/-- Outside reset a command has its effect; during a reset it leaves the part as it is (R185). -/
theorem live_does {u : State} (h : Does c s u) (run : exec c s = .next (if s.inReset then s else u)) :
    ∃ t, exec c s = .next t ∧ Does c s t := by
  rw [run]
  split
  · exact ⟨s, rfl, .idle⟩
  · exact ⟨_, rfl, h⟩

/-- A request row whose code is not that of RESTART. -/
theorem live_request_does {code : Byte} {body : List Byte} {service : Service}
    (run : exec c s = s.live fun t => t.request c code body service) (defined : serviceOf code = some service)
    (other : code ≠ 0x51#8) : ∃ t, exec c s = .next t ∧ Does c s t :=
  live_does (request_does defined fun h => absurd h other) run

theorem releaseReset_does : Does c s s.releaseReset := by
  by_cases held : s.loader.load = .noLoad
  · exact .release held
  · have out : s.releaseReset = s := by simp [State.releaseReset, State.inReset, held]
    exact out.symm ▸ .idle

theorem takeImageByte_does {value : Byte} : Does c s (s.takeImageByte value) := by
  by_cases loading : s.loader.load = .loading
  · exact .imageByte loading
  · have out : s.takeImageByte value = s := by simp [State.takeImageByte, loading]
    exact out.symm ▸ .idle

theorem failRead_does : Does c s s.failRead := by
  unfold State.failRead
  split_ifs with loading
  · exact .idle
  · exact .loadFails (.inl (not_not.mp loading))

theorem byteTimesOut_does : Does c s s.byteTimesOut := by
  unfold State.byteTimesOut
  split_ifs
  · exact failRead_does
  · exact .idle

theorem checkImage_does : Does c s s.checkImage := by
  unfold State.checkImage
  split_ifs with h
  · exact .idle
  · have checking := not_not.mp h
    cases passed : imageFault s.loader.image with
    | some fault => exact .loadFails (.inr checking)
    | none => exact .loads checking passed

theorem unknownRequest_does {code : Byte} {body : List Byte} :
    Does (.unknownRequest code body) s
      (if windowEmpty [code] && s.mgmt.rdy then s.showAnswer
       else if windowEmpty [code] then s.notReadyWindow []
       else s.takeFrame (.unknownRequest code body) code body) := by
  split_ifs
  · exact .shows
  · exact .notReady
  · exact takeFrame_does fun h => .inr (.inl ⟨body, h ▸ rfl⟩)

theorem badFrame_does {bytes : List Byte} {bits : Nat} :
    Does (.badFrame bytes bits) s (s.takeWindow (.badFrame bytes bits) bytes bits) := by
  refine takeWindow_does fun h => .inr (.inr ?_)
  cases bytes with
  | nil => cases h
  | cons code rest => exact ⟨rest, bits, by rw [← show code = 0x51#8 from h]⟩

theorem emptyWindow_does : Does c s (if s.mgmt.rdy then s.showAnswer else s.notReadyWindow []) := by
  split_ifs
  · exact .shows
  · exact .notReady

end Commands

/-- Every command answers a next state, which is what one of the part's operations makes of the state (log entry 16). -/
theorem exec_does (c : Instr) (s : State) : ∃ t, exec c s = .next t ∧ Does c s t := by
  cases c with
  | powerOnReset => exact ⟨_, rfl, .reset⟩
  | pinReset => exact ⟨_, rfl, .reset⟩
  | resetRelease => exact ⟨_, rfl, releaseReset_does⟩
  | configByteRead value => exact ⟨_, rfl, takeImageByte_does⟩
  | readFailed => exact ⟨_, rfl, failRead_does⟩
  | configByteTimeout => exact ⟨_, rfl, byteTimesOut_does⟩
  | imageCheck => exact ⟨_, rfl, checkImage_does⟩
  | status body => exact live_request_does rfl rfl (by decide)
  | add body => exact live_request_does rfl rfl (by decide)
  | edit body => exact live_request_does rfl rfl (by decide)
  | retire body => exact live_request_does rfl rfl (by decide)
  | read body => exact live_request_does rfl rfl (by decide)
  | channelRead body => exact live_request_does rfl rfl (by decide)
  | walkStart body => exact live_request_does rfl rfl (by decide)
  | walkContinue body => exact live_request_does rfl rfl (by decide)
  | spanRead body => exact live_request_does rfl rfl (by decide)
  | spanDelay body => exact live_request_does rfl rfl (by decide)
  | operatorBar body => exact live_request_does rfl rfl (by decide)
  | operatorForce body => exact live_request_does rfl rfl (by decide)
  | operatorAsk body => exact live_request_does rfl rfl (by decide)
  | release body => exact live_request_does rfl rfl (by decide)
  | settingsRead body => exact live_request_does rfl rfl (by decide)
  | settingsWrite body => exact live_request_does rfl rfl (by decide)
  | freezeSet body => exact live_request_does rfl rfl (by decide)
  | freezeClear body => exact live_request_does rfl rfl (by decide)
  | arm body => exact live_request_does rfl rfl (by decide)
  | restart body => exact live_does (request_does rfl fun _ => .inl ⟨body, rfl⟩) rfl
  | faultRead body => exact live_request_does rfl rfl (by decide)
  | faultClear body => exact live_request_does rfl rfl (by decide)
  | badFrame bytes bits => exact live_does badFrame_does rfl
  | unknownRequest code body => exact live_does unknownRequest_does rfl
  | emptyWindow => exact live_does emptyWindow_does rfl
  | overrun mdi => exact live_does .notReady rfl
  | receiverConditionChange side los lock grade => exact ⟨_, rfl, .happens .receiver⟩
  | dimTimerExpiry side => exact live_does (.happens .dimExpires) rfl
  | darkTimerExpiry side => exact live_does (.happens .darkExpires) rfl
  | soakExpiry side => exact live_does (.happens .soakExpires) rfl
  | noticePeriod => exact ⟨_, rfl, .happens .period⟩
  | ringNotice side frame => exact live_does (.happens .receives) rfl
  | linkDown side => exact live_does (.happens .linkExpires) rfl
  | settleTimerExpiry side => exact live_does (.happens .settleExpires) rfl
  | echoHoldExpiry side => exact live_does (.happens .echoExpires) rfl
  | answerTimerExpiry side => exact live_does (.happens .answerExpires) rfl
  | sweepCompletion => exact live_does (.happens .completes) rfl
  | fabDone generation => exact live_does (.happens .done) rfl
  | fabricTimeout => exact live_does (.happens .fabricExpires) rfl
  | freezePinChange asserted => exact ⟨_, rfl, .happens .freezePin⟩

/-- What is kept by every operation a command may do is kept by every step: `P` is not told by the queue. -/
theorem step_keeps {P : State → Prop} (queue : ∀ s rest, P s → P (State.setPending s rest))
    (keeps : ∀ {c s t}, Does c s t → P s → P t) {s t : State} (h : P s) (run : step s = .next t) : P t := by
  unfold step at run
  split at run
  · cases run
    exact h
  · next c rest _ =>
    obtain ⟨u, hu, does⟩ := exec_does c (s.setPending rest)
    cases hu.symm.trans run
    exact keeps does (queue s rest h)

end Sys2Proof.Machine
end

section
/-!
What the work inside an event is made of: the Request Unit, the Switch Protocol Unit, the Line Monitors and the triggers they
give replace their own blocks, the transmit content of a port, and nothing else that is held. Each of their operations is
such work, and what work keeps is proved once, along its parts.
-/

namespace Sys2Proof.Machine

/-- Work of the Request Unit, the Switch Protocol Unit and the Line Monitors, with the triggers it gives (R49, R88, R97,
R106). -/
inductive Works : State → State → Prop
  | refl (s : State) : Works s s
  | trigger (s : State) : Works s s.trigger
  | requests (s : State) (u : RequestUnit) : Works s (s.setRequests u)
  | protocol (s : State) (u : SwitchUnit) : Works s (s.setProtocol u)
  | monitor (s : State) (x : Side) (m : Monitor) : Works s (s.setMonitor x m)
  | transmit (s : State) (x : Side) (n : Option Notice) : Works s (s.setPort x { s.ports.get x with transmit := n })
  | order (s : State) : Works s s.dropOrder
  | trans {s t u : State} (first : Works s t) (second : Works t u) : Works s u

theorem Works.ite {s t u : State} {p : Prop} [Decidable p] (yes : Works s t) (no : Works s u) :
    Works s (if p then t else u) := by
  split
  · exact yes
  · exact no

/-! ### The operations that are work -/

theorem writeChoice_works (s : State) (x : Side) : Works s (s.writeChoice x) := by
  unfold State.writeChoice
  exact .ite (.refl s) (.trans (.protocol s _) (.transmit _ x _))

theorem triggerIfDecided_works (s : State) (u : SwitchUnit) (x : Side) : Works s (s.triggerIfDecided u x) := by
  unfold State.triggerIfDecided
  exact .ite (.refl s) (.trigger s)

theorem closeSwitch_works (s : State) : Works s s.closeSwitch :=
  .trans (.trans (.trans (.trans (.protocol s _) (triggerIfDecided_works _ _ .east)) (triggerIfDecided_works _ _ .west))
    (writeChoice_works _ .east)) (writeChoice_works _ .west)

theorem switchTakesDerivation_works (s : State) : Works s s.switchTakesDerivation :=
  .trans (.protocol s _) (closeSwitch_works _)

theorem switchTakesStanding_works (s : State) (x : Side) : Works s (s.switchTakesStanding x) :=
  .trans (.protocol s _) (closeSwitch_works _)

theorem switchTakesCompletion_works (s : State) (decided : Pair SideState) : Works s (s.switchTakesCompletion decided) :=
  .trans (.trans (.protocol s _) (closeSwitch_works _)) (.protocol _ _)

theorem handOn_works (s : State) (old : RequestUnit) : Works s (s.handOn old) := by
  unfold State.handOn
  split
  · exact .refl s
  · exact .trigger s
  · exact switchTakesDerivation_works s
  · exact .ite (.trans (.trans (.order s) (.trigger _)) (switchTakesDerivation_works _))
      (.trans (.trans (.order s) (switchTakesDerivation_works _)) (.trigger _))

theorem deriveFrom_works (s : State) (sides : Pair LocalRequest) : Works s (s.deriveFrom sides) :=
  .trans (.requests s _) (handOn_works _ _)

theorem changeLocal_works (s : State) (x : Side) (l : LocalRequest) : Works s (s.changeLocal x l) := deriveFrom_works s _

theorem requestTakesLevel_works (s : State) (x : Side) (level : Level) : Works s (s.requestTakesLevel x level) := by
  unfold State.requestTakesLevel
  cases level
  · exact .ite (changeLocal_works s x _) (changeLocal_works s x _)
  · exact changeLocal_works s x _
  · exact changeLocal_works s x _

theorem requestTakesStanding_works (s : State) (x : Side) : Works s (s.requestTakesStanding x) := deriveFrom_works s _

theorem settleExpires_works (s : State) (x : Side) : Works s (s.settleExpires x) :=
  .ite (changeLocal_works s x _) (.refl s)

theorem echoExpires_works (s : State) (x : Side) : Works s (s.echoExpires x) := .ite (deriveFrom_works s _) (.refl s)

theorem declare_works (s : State) (x : Side) (old : Level) : Works s (s.declare x old) := by
  unfold State.declare
  exact .ite (.refl s) (requestTakesLevel_works s x _)

theorem setMonitor_declare_works (s : State) (x : Side) (m : Monitor) (old : Level) :
    Works s ((s.setMonitor x m).declare x old) :=
  .trans (.monitor s x m) (declare_works _ x old)

theorem formRaw_works (s : State) (x : Side) : Works s (s.formRaw x) := by
  unfold State.formRaw
  exact .ite (.refl s) (setMonitor_declare_works s x _ _)

theorem dimExpires_works (s : State) (x : Side) : Works s (s.dimExpires x) :=
  .ite (setMonitor_declare_works s x _ _) (.refl s)

theorem darkExpires_works (s : State) (x : Side) : Works s (s.darkExpires x) :=
  .ite (setMonitor_declare_works s x _ _) (.refl s)

theorem soakExpires_works (s : State) (x : Side) : Works s (s.soakExpires x) :=
  .ite (setMonitor_declare_works s x _ _) (.refl s)

theorem eachSide_works (s : State) {event : Side → State → State} (h : ∀ x t, Works t (event x t)) :
    Works s (s.eachSide event) := by
  unfold State.eachSide
  exact .ite (.trans (.trans (.order s) (h _ _)) (h _ _)) (.trans (.trans (.order s) (h _ _)) (h _ _))

theorem takesStanding_works (x : Side) (linkChanged : Bool) (s : State) (t : Taker) :
    Works s (s.takesStanding x linkChanged t) := by
  cases t
  · exact switchTakesStanding_works s x
  · exact requestTakesStanding_works s x
  · exact .ite (formRaw_works s x) (.refl s)

theorem foldl_works {α : Type} {f : State → α → State} (h : ∀ s a, Works s (f s a)) :
    ∀ (l : List α) (s : State), Works s (l.foldl f s)
  | [], s => .refl s
  | a :: l, s => .trans (h s a) (foldl_works h l (f s a))

theorem handStanding_works (s : State) (x : Side) (linkChanged : Bool) : Works s (s.handStanding x linkChanged) :=
  .trans (.order s) (foldl_works (takesStanding_works x linkChanged) _ _)

/-- What a SETTINGS-WRITE gives after it has stored the settings (R51, R159). -/
theorem writeSettings_works (s : State) (b : SettingsBody) : Works (s.storeSettings b) (s.writeSettings b) := by
  have triggered : Works (s.storeSettings b)
      (if s.changesTransit b then (s.storeSettings b).trigger else s.storeSettings b) := .ite (.trigger _) (.refl _)
  exact .ite triggered (.trans triggered (eachSide_works _ fun x t => formRaw_works t x))

/-! ### What work keeps -/

theorem Pair.get_set {α : Type} (p : Pair α) (x y : Side) (v : α) : (p.set x v).get y = if y = x then v else p.get y := by
  cases x <;> cases y <;> rfl

/-- Work leaves every block but those it is about. -/
theorem Works.only {s t : State} (h : Works s t) : onlyChanges lineReach s t := by
  induction h with
  | refl s => exact onlyChanges_refl _ s
  | trigger s => exact onlyChanges_mono (trigger_only s) (by decide)
  | requests s u => exact onlyChanges_mono (setRequests_only s u) (by decide)
  | protocol s u => exact onlyChanges_mono (setProtocol_only s u) (by decide)
  | monitor s x m => exact onlyChanges_mono (setMonitor_only s x m) (by decide)
  | transmit s x n => exact onlyChanges_mono (setPort_only s x _) (by decide)
  | order s => exact onlyChanges_mono (dropOrder_only s) (by decide)
  | trans _ _ first second => exact onlyChanges_trans first second

section Kept

variable {s t : State}

theorem Works.pins (h : Works s t) : t.pins = s.pins := h.only .pins (by decide)
theorem Works.loader (h : Works s t) : t.loader = s.loader := h.only .loader (by decide)
theorem Works.ring (h : Works s t) : t.ring = s.ring := h.only .ring (by decide)
theorem Works.settings (h : Works s t) : t.settings = s.settings := h.only .settings (by decide)
theorem Works.table (h : Works s t) : t.table = s.table := h.only .table (by decide)
theorem Works.fabric (h : Works s t) : t.fabric = s.fabric := h.only .fabric (by decide)
theorem Works.mgmt (h : Works s t) : t.mgmt = s.mgmt := h.only .mgmt (by decide)
theorem Works.now (h : Works s t) : t.now = s.now := h.only .now (by decide)

theorem Works.geo (h : Works s t) : t.geo = s.geo := by rw [State.geo, h.ring, State.geo]
theorem Works.running (h : Works s t) : t.running = s.running := by rw [State.running, h.loader, State.running]
theorem Works.gateOpen (h : Works s t) : t.gateOpen = s.gateOpen := by
  rw [State.gateOpen, State.frozen, h.loader, h.pins, h.fabric]
  rfl

theorem trigger_ports (s : State) : s.trigger.ports = s.ports := trigger_only s .ports (by decide)

/-- Of a port, work changes the transmit content alone. -/
theorem Works.port (h : Works s t) (y : Side) : ∃ n, t.ports.get y = { s.ports.get y with transmit := n } := by
  induction h with
  | refl s => exact ⟨_, rfl⟩
  | trigger s => exact ⟨_, by rw [trigger_ports]⟩
  | requests s u => exact ⟨_, rfl⟩
  | protocol s u => exact ⟨_, rfl⟩
  | monitor s x m => exact ⟨_, rfl⟩
  | order s => exact ⟨_, rfl⟩
  | transmit s x n =>
    rw [State.setPort, State.setPorts_ports, Pair.get_set]
    split_ifs with same
    · exact ⟨n, by rw [same]⟩
    · exact ⟨_, rfl⟩
  | trans _ _ first second =>
    obtain ⟨m, hm⟩ := first
    obtain ⟨n, hn⟩ := second
    exact ⟨n, by rw [hn, hm]⟩

theorem Works.standing (h : Works s t) (y : Side) : (t.ports.get y).standing = (s.ports.get y).standing := by
  obtain ⟨n, hn⟩ := h.port y
  rw [hn]

theorem Works.run (h : Works s t) (y : Side) : (t.ports.get y).run = (s.ports.get y).run := by
  obtain ⟨n, hn⟩ := h.port y
  rw [hn]

theorem Works.link (h : Works s t) (y : Side) : (t.ports.get y).link = (s.ports.get y).link := by
  obtain ⟨n, hn⟩ := h.port y
  rw [hn]

theorem Works.downTimer (h : Works s t) (y : Side) : (t.ports.get y).downTimer = (s.ports.get y).downTimer := by
  obtain ⟨n, hn⟩ := h.port y
  rw [hn]

/-- What the Request Unit reads besides its own parts stands. -/
theorem Works.hearing (h : Works s t) : t.hearing = s.hearing := by
  have standing : (fun x => (t.ports.get x).standing) = fun x => (s.ports.get x).standing := funext h.standing
  rw [State.hearing, State.hearing, h.geo, h.now, standing]

/-- The inputs of the monitors stand. -/
theorem Works.rawLevel (h : Works s t) (y : Side) : t.rawLevel y = s.rawLevel y := by
  rw [State.rawLevel, State.rawLevel, h.pins, h.settings, h.link]

end Kept

/-! ### The Attention Unit under work: PROTOCOL alone is reported -/

/-- The Attention Unit has taken reports of the PROTOCOL group alone (R137, R172). -/
structure Attention.Hears (a b : Attention) : Prop where
  masks : b.masks = a.masks
  plan : b.causes.plan = a.causes.plan
  records : ∀ g, g ≠ .protocol → b.records.ofGroup g = a.records.ofGroup g
  causes : ∀ g, g ≠ .protocol → b.causes.ofGroup g = a.causes.ofGroup g
  more : a.moreFaults = true → b.moreFaults = true

theorem Attention.Hears.refl (a : Attention) : a.Hears a :=
  ⟨rfl, rfl, fun _ _ => rfl, fun _ _ => rfl, id⟩

theorem Attention.Hears.trans {a b c : Attention} (first : a.Hears b) (second : b.Hears c) : a.Hears c :=
  ⟨second.masks.trans first.masks, second.plan.trans first.plan,
    fun g hg => (second.records g hg).trans (first.records g hg),
    fun g hg => (second.causes g hg).trans (first.causes g hg), fun h => second.more (first.more h)⟩

theorem Attention.report_hears (a : Attention) (kind : FaultKind) (detail : Nat) :
    a.Hears (a.report .protocol kind detail) := by
  obtain ⟨clear, occupied, masks, plan, others⟩ := faultReportsDriveAttn.1 a .protocol kind detail
  refine ⟨masks, plan, fun g hg => (others g hg).1, fun g hg => (others g hg).2, fun more => ?_⟩
  by_cases h : a.records.ofGroup .protocol = none
  · exact (clear h).2.2.trans more
  · exact (occupied h).2.2

/-- What a trigger does to the Attention Unit: nothing, or one RESTART-LIMIT (R137). -/
theorem trigger_attention (s : State) :
    s.trigger.attention = s.attention ∨ s.trigger.attention = s.attention.report .protocol .restartLimit 0 := by
  unfold State.trigger
  split_ifs
  · exact .inl rfl
  · exact .inl rfl
  · exact .inl rfl
  · exact .inr rfl

theorem Works.hears {s t : State} (h : Works s t) : s.attention.Hears t.attention := by
  induction h with
  | trigger s =>
    obtain same | told := trigger_attention s
    · exact same ▸ .refl _
    · exact told ▸ Attention.report_hears _ _ _
  | trans _ _ first second => exact first.trans second
  | _ => exact .refl _

/-! ### Reports keep cause flags and records together (R171) -/

/-- Each cause flag is raised exactly while its record is occupied. -/
def Attention.matched (a : Attention) : Prop := ∀ g : FaultGroup, a.causes.ofGroup g = (a.records.ofGroup g).isSome

theorem causesMatchRecords_iff {s : State} : CausesMatchRecords s ↔ s.attention.matched := Iff.rfl

theorem Attention.report_matched {a : Attention} (h : a.matched) (g : FaultGroup) (kind : FaultKind) (detail : Nat) :
    (a.report g kind detail).matched := by
  intro g'
  unfold Attention.report
  split
  next =>
    rw [Causes.ofGroup_setGroup, FaultRecords.ofGroup_setGroup]
    split_ifs
    · rfl
    · exact h g'
  next => exact h g'

theorem Works.matched {s t : State} (h : Works s t) (m : s.attention.matched) : t.attention.matched := by
  induction h with
  | trigger s =>
    obtain same | told := trigger_attention s
    · exact same ▸ m
    · exact told ▸ Attention.report_matched m _ _ _
  | trans _ _ first second => exact second (first m)
  | _ => exact m

/-! ### The Plan Engine under work -/

theorem trigger_committed (s : State) : s.trigger.plan.committed = s.plan.committed := by
  unfold State.trigger
  split_ifs <;> rfl

theorem Works.committed {s t : State} (h : Works s t) : t.plan.committed = s.plan.committed := by
  induction h with
  | trigger s => exact trigger_committed s
  | trans _ _ first second => exact second.trans first
  | _ => rfl

/-- A sweep that runs goes on running. -/
theorem Works.sweeps {s t : State} (h : Works s t) (runs : s.plan.sweep.isSome = true) : t.plan.sweep.isSome = true := by
  induction h with
  | trigger s => exact s.trigger_sweep_isSome
  | trans _ _ first second => exact second (first runs)
  | _ => exact runs

end Sys2Proof.Machine
end

section
/-!
Proofs about the machine as a whole: the frames of the load and the resets, and what every command does to the queue, to the
Identity Loader and to the management port's slots (chapters 9 and 11).
-/

namespace Sys2Proof.Machine

/-! ### Frames of the load and the resets -/

theorem beginLoad_only (s : State) : onlyChanges [.loader] s s.beginLoad := setLoader_only s _

theorem releaseReset_only (s : State) : onlyChanges [.loader, .mgmt] s s.releaseReset :=
  onlyChanges_ite (onlyChanges_chain (beginLoad_only s) (setMgmt_only _ _) (by decide) (by decide)) (onlyChanges_refl _ _)

theorem takeImageByte_only (s : State) (value : Byte) : onlyChanges [.loader] s (s.takeImageByte value) :=
  onlyChanges_ite (onlyChanges_refl _ _) (onlyChanges_ite (setLoader_only s _) (setLoader_only s _))

theorem failLoad_only (s : State) (kind : FaultKind) (detail : Nat) :
    onlyChanges [.loader, .attention] s (s.failLoad kind detail) :=
  onlyChanges_chain (setLoader_only s _) (report_only _ _ _ _) (by decide) (by decide)

/-- The blocks that are held until LOADED (R44, R55, R66, R91). -/
abbrev heldReach : List Block := [.monitors, .ports, .requests, .protocol]

theorem setHeld_only (s : State) (m : Pair Monitor) (p : Pair Port) (q : RequestUnit) (u : SwitchUnit) :
    onlyChanges heldReach s ((((s.setMonitors m).setPorts p).setRequests q).setProtocol u) :=
  onlyChanges_chain (onlyChanges_chain (onlyChanges_chain (setMonitors_only s m) (setPorts_only _ p) (cs := heldReach)
    (by decide) (by decide)) (setRequests_only _ q) (cs := heldReach) (by decide) (by decide)) (setProtocol_only _ u)
    (by decide) (by decide)

theorem freshBlocks_only (s : State) : onlyChanges heldReach s s.freshBlocks := setHeld_only s _ _ _ _

theorem holdBlocks_only (s : State) : onlyChanges heldReach s s.holdBlocks := setHeld_only s _ _ _ _

/-- The start of the held blocks is work from their values at load (R44, R52). -/
theorem startBlocks_works (s : State) : Works s.freshBlocks s.startBlocks :=
  eachSide_works _ fun x t => formRaw_works t x

theorem startBlocks_only (s : State) : onlyChanges lineReach s s.startBlocks :=
  onlyChanges_chain (freshBlocks_only s) (startBlocks_works s).only (by decide) (by decide)

/-- What the end of a load may touch. -/
abbrev loadReach : List Block := [.loader, .ring, .settings] ++ lineReach

theorem finishLoad_only (s : State) : onlyChanges loadReach s s.finishLoad :=
  onlyChanges_chain (onlyChanges_chain (onlyChanges_chain (setLoader_only s _) (setRing_only _ _) (cs := loadReach)
    (by decide) (by decide)) (setSettings_only _ _) (cs := loadReach) (by decide) (by decide)) (startBlocks_only _)
    (by decide) (by decide)

/-- What a soft RESTART may touch. -/
abbrev restartReach : List Block := [.loader, .table, .fabric] ++ lineReach

theorem clearForRestart_only (s : State) :
    onlyChanges [.loader, .table, .plan, .fabric, .attention] s s.clearForRestart := by
  have loader := onlyChanges_mono (cs := [.loader, .table, .plan, .fabric, .attention])
    (setLoader_only s { s.loader with armed := false }) (by decide)
  have table := fun t x => onlyChanges_mono (cs := [.loader, .table, .plan, .fabric, .attention]) (setTable_only t x)
    (by decide)
  have plan := fun t x => onlyChanges_mono (cs := [.loader, .table, .plan, .fabric, .attention]) (setPlan_only t x)
    (by decide)
  have fabric := fun t x => onlyChanges_mono (cs := [.loader, .table, .plan, .fabric, .attention]) (setFabric_only t x)
    (by decide)
  have attention := fun t x => onlyChanges_mono (cs := [.loader, .table, .plan, .fabric, .attention])
    (setAttention_only t x) (by decide)
  exact onlyChanges_trans loader (onlyChanges_trans (table _ _) (onlyChanges_trans (plan _ _)
    (onlyChanges_trans (fabric _ _) (attention _ _))))

theorem softRestart_only (s : State) : onlyChanges restartReach s s.softRestart :=
  onlyChanges_ite
    (onlyChanges_chain (clearForRestart_only s) (startBlocks_only _) (by decide) (by decide))
    (onlyChanges_chain (onlyChanges_chain (clearForRestart_only s) (holdBlocks_only _) (cs := restartReach) (by decide)
      (by decide)) (beginLoad_only _) (by decide) (by decide))

theorem beginPeriod_only (s : State) : onlyChanges [.ports, .now] s s.beginPeriod := by
  intro b hb
  cases b <;> simp at hb <;> rfl

/-! ### What events and requests may touch -/

/-- What an event may touch. -/
abbrev eventReach : List Block := [.pins, .fabric, .now] ++ lineReach

theorem Happens.only {s t : State} (h : Happens s t) : onlyChanges eventReach s t := by
  cases h with
  | receiver => exact onlyChanges_chain (setPins_only s _) (formRaw_only _ _) (by decide) (by decide)
  | freezePin => exact onlyChanges_mono (takeFreezePin_only s _) (by decide)
  | period => exact onlyChanges_mono (beginPeriod_only s) (by decide)
  | dimExpires => exact onlyChanges_mono (dimExpires_only s _) (by decide)
  | darkExpires => exact onlyChanges_mono (darkExpires_only s _) (by decide)
  | soakExpires => exact onlyChanges_mono (soakExpires_only s _) (by decide)
  | receives => exact onlyChanges_mono (receive_only s _ _) (by decide)
  | linkExpires => exact onlyChanges_mono (linkExpires_only s _) (by decide)
  | settleExpires => exact onlyChanges_mono (settleExpires_only s _) (by decide)
  | echoExpires => exact onlyChanges_mono (echoExpires_only s _) (by decide)
  | answerExpires => exact onlyChanges_mono (answerExpires_only s _) (by decide)
  | completes => exact onlyChanges_mono (completeSweep_only s) (by decide)
  | done => exact onlyChanges_mono (takeDone_only s _) (by decide)
  | fabricExpires => exact onlyChanges_mono (fabricExpires_only s) (by decide)

/-- What a service may touch. -/
abbrev serviceReach : List Block := [.ring, .settings] ++ restartReach

theorem Served.only {code : Byte} {s t : State} (h : Served code s t) : onlyChanges serviceReach s t := by
  cases h with
  | same => exact onlyChanges_refl _ s
  | add => exact onlyChanges_mono (addCircuit_only s _) (by decide)
  | edit => exact onlyChanges_mono (editCircuit_only s _ _) (by decide)
  | retire => exact onlyChanges_mono (retireCircuit_only s _) (by decide)
  | walk => exact onlyChanges_mono (setTable_only s _) (by decide)
  | delay => exact onlyChanges_mono (setDelay_only s _ _) (by decide)
  | operator => exact onlyChanges_mono (setOperator_only s _ _) (by decide)
  | release => exact onlyChanges_mono (changeLocal_only s _ _) (by decide)
  | settings => exact onlyChanges_mono (writeSettings_only s _) (by decide)
  | freeze => exact onlyChanges_mono (setFreezeFlag_only s _) (by decide)
  | arm => exact onlyChanges_mono (armPart_only s) (by decide)
  | restart => exact onlyChanges_mono (softRestart_only s) (by decide)
  | clear => exact onlyChanges_mono (setAttention_only s _) (by decide)

/-! ### The queue -/

section Commands

variable {c : Instr} {s t : State}

/-- No command touches the queue (log entry 30). -/
theorem Does.pending (h : Does c s t) : t.pending = s.pending := by
  cases h with
  | idle => rfl
  | reset => rfl
  | release => exact releaseReset_only s .pending (by decide)
  | imageByte => exact takeImageByte_only s _ .pending (by decide)
  | loadFails => exact failLoad_only s _ _ .pending (by decide)
  | loads => exact finishLoad_only s .pending (by decide)
  | happens event => exact event.only .pending (by decide)
  | notReady => exact notReadyWindow_only s _ .pending (by decide)
  | shows => rfl
  | corrupt => rfl
  | unknown => rfl
  | serves rdy named served => exact (served.only .pending (by decide)).trans rfl

/-! ### The Identity Loader -/

/-- What a command may do to the Identity Loader (chapter 11). -/
inductive LoaderMoves (s : State) : Loader → Prop
  | same : LoaderMoves s s.loader
  | reset : LoaderMoves s Loader.atReset
  | release (held : s.loader.load = .noLoad) : LoaderMoves s s.beginLoad.loader
  | imageByte {value : Byte} (loading : s.loader.load = .loading) : LoaderMoves s (s.takeImageByte value).loader
  | fails (busy : s.loader.load = .loading ∨ s.loader.load = .checking) :
      LoaderMoves s { s.loader with load := .loadFailed, byteTimer := none }
  | loads (checking : s.loader.load = .checking) :
      LoaderMoves s { s.loader with load := .loaded, byteTimer := none }
  | arms (running : s.running = true) : LoaderMoves s { s.loader with armed := true }
  | disarms (running : s.running = true) : LoaderMoves s { s.loader with armed := false }
  | reloads : LoaderMoves s { s.beginLoad.loader with armed := false }

theorem armPart_loader (s : State) : s.armPart.loader = { s.loader with armed := true } := by
  unfold State.armPart
  split_ifs with armed
  · rw [← armed]
  · exact (trigger_only _ .loader (by decide)).trans (gateFormed_only _ _ .loader (by decide))

theorem softRestart_loader_of_running {s : State} (running : s.running = true) :
    s.softRestart.loader = { s.loader with armed := false } := by
  rw [State.softRestart, if_pos running]
  exact startBlocks_only _ .loader (by decide)

theorem softRestart_loader_of_not_running {s : State} (held : ¬s.running = true) :
    s.softRestart.loader = { s.beginLoad.loader with armed := false } := by
  rw [State.softRestart, if_neg held]
  rfl

theorem Served.loader {code : Byte} {s t : State} (h : Served code s t) :
    t.loader = s.loader ∨ (s.running = true ∧ t.loader = { s.loader with armed := true }) ∨
      (s.running = true ∧ t.loader = { s.loader with armed := false }) ∨
      (s.running = false ∧ t.loader = { s.beginLoad.loader with armed := false }) := by
  cases h with
  | same => exact .inl rfl
  | add => exact .inl (addCircuit_only s _ .loader (by decide))
  | edit => exact .inl (editCircuit_only s _ _ .loader (by decide))
  | retire => exact .inl (retireCircuit_only s _ .loader (by decide))
  | walk => exact .inl rfl
  | delay => exact .inl (setDelay_only s _ _ .loader (by decide))
  | operator => exact .inl (setOperator_only s _ _ .loader (by decide))
  | release => exact .inl (changeLocal_only s _ _ .loader (by decide))
  | settings => exact .inl (writeSettings_only s _ .loader (by decide))
  | freeze => exact .inl (setFreezeFlag_only s _ .loader (by decide))
  | arm running => exact .inr (.inl ⟨running, armPart_loader s⟩)
  | restart =>
    by_cases running : s.running = true
    · exact .inr (.inr (.inl ⟨running, softRestart_loader_of_running running⟩))
    · exact .inr (.inr (.inr ⟨by simpa using running, softRestart_loader_of_not_running running⟩))
  | clear => exact .inl rfl

theorem finishLoad_loader (s : State) : s.finishLoad.loader = { s.loader with load := .loaded, byteTimer := none } :=
  startBlocks_only _ .loader (by decide)

theorem loaderMoves_of_eq {l : Loader} (h : l = s.loader) : LoaderMoves s l := h ▸ .same

theorem Does.loader (h : Does c s t) : LoaderMoves s t.loader := by
  cases h with
  | idle => exact .same
  | reset => exact .reset
  | release held =>
    have released : s.releaseReset.loader = s.beginLoad.loader := by
      simp [State.releaseReset, State.inReset, held, State.setMgmt]
    exact released ▸ .release held
  | imageByte loading => exact .imageByte loading
  | loadFails busy => exact .fails busy
  | loads checking =>
    exact finishLoad_loader s ▸ .loads checking
  | happens event => exact loaderMoves_of_eq (event.only .loader (by decide))
  | notReady => exact loaderMoves_of_eq (notReadyWindow_only s _ .loader (by decide))
  | shows => exact .same
  | corrupt => exact .same
  | unknown => exact .same
  | serves rdy named served =>
    obtain same | ⟨running, armed⟩ | ⟨running, disarmed⟩ | ⟨-, reloaded⟩ := served.loader
    · exact loaderMoves_of_eq same
    · exact armed ▸ .arms running
    · exact disarmed ▸ .disarms running
    · exact reloaded ▸ .reloads

end Commands

/-! ### The flags and the loader (R171, R178, R179, R181, R185) -/

/-- The armed flag is set only while the load state is LOADED, told of the loader alone. -/
theorem LoaderMoves.armedOnlyLoaded {s : State} {l : Loader} (h : LoaderMoves s l) (sound : ArmedOnlyLoaded s) :
    l.armed = true → l.load = .loaded := by
  unfold ArmedOnlyLoaded at sound
  cases h with
  | same => exact sound
  | reset => exact fun armed => absurd armed (by decide)
  | release held => exact fun armed => absurd ((sound armed).symm.trans held) (by decide)
  | @imageByte value loading =>
    intro armed
    have kept : (s.takeImageByte value).loader.armed = s.loader.armed := by
      unfold State.takeImageByte
      dsimp only
      split_ifs <;> rfl
    exact absurd ((sound (kept.symm.trans armed)).symm.trans loading) (by decide)
  | fails busy =>
    intro armed
    obtain loading | checking := busy
    · exact absurd ((sound armed).symm.trans loading) (by decide)
    · exact absurd ((sound armed).symm.trans checking) (by decide)
  | loads => exact fun _ => rfl
  | arms running => exact fun _ => by simpa [State.running] using running
  | disarms => exact fun armed => absurd armed (by simp)
  | reloads => exact fun armed => absurd armed (by simp)

/-- The transaction of a load up to its n-th byte acknowledged (R179). -/
def acknowledgedBus (n : Nat) : List BusItem := addressPhases ++ List.replicate n .acknowledge

theorem acknowledgedBus_succ (n : Nat) : acknowledgedBus (n + 1) = acknowledgedBus n ++ [.acknowledge] := by
  rw [acknowledgedBus, List.replicate_succ', ← List.append_assoc]
  rfl

/-- The loader's buffer, byte timer and bus fit its load state, told of the loader alone (R178, R179). -/
def Loader.sound (l : Loader) : Prop :=
  match l.load with
  | .noLoad => l.image = [] ∧ l.byteTimer = none ∧ l.bus = []
  | .loading => l.image.length ≤ 82 ∧ l.byteTimer.isSome = true ∧ l.bus = acknowledgedBus l.image.length
  | .loadFailed => l.image.length ≤ 83 ∧ l.byteTimer = none
  | _ => l.image.length = 83 ∧ l.byteTimer = none ∧ l.bus = acknowledgedBus 82 ++ [.noAcknowledge, .stop]

theorem loaderSound_iff {s : State} : LoaderSound s ↔ s.loader.sound := Iff.rfl

theorem beginLoad_sound (s : State) : s.beginLoad.loader.sound := ⟨Nat.zero_le _, rfl, rfl⟩

/-- A byte taken in LOADING fills the buffer or leaves room for the next (R179). -/
theorem takeImageByte_sound {s : State} {value : Byte} (loading : s.loader.load = .loading) (h : s.loader.sound) :
    (s.takeImageByte value).loader.sound := by
  simp only [Loader.sound, loading] at h
  obtain ⟨short, -, bus⟩ := h
  by_cases last : s.loader.image.length = 82
  · simp [State.takeImageByte, loading, imageLength, last, Loader.sound, bus, State.setLoader]
  · simp [State.takeImageByte, loading, imageLength, Loader.sound, bus, State.setLoader, acknowledgedBus_succ,
      show ¬83 ≤ s.loader.image.length + 1 by omega]
    omega

theorem LoaderMoves.sound {s : State} {l : Loader} (h : LoaderMoves s l) (sound : s.loader.sound) : l.sound := by
  cases h with
  | same => exact sound
  | reset => exact ⟨rfl, rfl, rfl⟩
  | release => exact beginLoad_sound s
  | imageByte loading => exact takeImageByte_sound loading sound
  | fails busy =>
    obtain loading | checking := busy
    · simp only [Loader.sound, loading] at sound
      exact ⟨Nat.le_succ_of_le sound.1, rfl⟩
    · simp only [Loader.sound, checking] at sound
      exact ⟨sound.1.le, rfl⟩
  | loads checking =>
    simp only [Loader.sound, checking] at sound
    exact ⟨sound.1, rfl, sound.2.2⟩
  | arms => exact sound
  | disarms => exact sound
  | reloads => exact beginLoad_sound s

end Sys2Proof.Machine
end

section
/-!
Proofs about what every step keeps of the flags, the port, the settings and the blocks held until LOADED (R44, R50, R153,
R171, R181), and about the queue.
-/

namespace Sys2Proof.Machine

/-- Settles O1: both clauses are the definition of `step`. -/
theorem stepRunsFrontCommand : Obligations.StepRunsFrontCommand := by
  unfold Obligations.StepRunsFrontCommand
  refine fun c rest s => ⟨rfl, fun empty => ?_⟩
  rw [step, empty]

/-! ### During a reset (R185) -/

/-- A command whose effect waits for the end of a reset. -/
theorem exec_of_held {c : Instr} {s u : State} (held : s.loader.load = .noLoad)
    (run : exec c s = .next (if s.inReset then s else u)) : exec c s = .next s := by
  rw [run, if_pos (by simp [State.inReset, held])]

theorem takeImageByte_of_not_loading {s : State} (h : s.loader.load ≠ .loading) (value : Byte) :
    s.takeImageByte value = s := if_pos h

theorem failRead_of_not_loading {s : State} (h : s.loader.load ≠ .loading) : s.failRead = s := if_pos h

theorem byteTimesOut_of_not_loading {s : State} (h : s.loader.load ≠ .loading) : s.byteTimesOut = s := by
  rw [State.byteTimesOut, failRead_of_not_loading h, ite_self]

theorem checkImage_of_not_checking {s : State} (h : s.loader.load ≠ .checking) : s.checkImage = s := if_pos h

/-- Settles O2: what a command does leaves the queue (`Does.pending`), and during a reset every command but those named is
either disregarded as a whole or looks for a load under way. -/
theorem everyCommandGoesOn : Obligations.EveryCommandGoesOn := by
  unfold Obligations.EveryCommandGoesOn
  refine fun c s => ⟨?_, fun held noPower noPin noRelease noPeriod noReceiver noFreeze => ?_⟩
  · obtain ⟨t, run, does⟩ := exec_does c s
    exact ⟨t, run, does.pending⟩
  · have loading : s.loader.load ≠ .loading := by simp [held]
    have checking : s.loader.load ≠ .checking := by simp [held]
    cases c
    case powerOnReset => exact absurd rfl noPower
    case pinReset => exact absurd rfl noPin
    case resetRelease => exact absurd rfl noRelease
    case noticePeriod => exact absurd rfl noPeriod
    case receiverConditionChange => exact absurd rfl (noReceiver _ _ _ _)
    case freezePinChange => exact absurd rfl (noFreeze _)
    case configByteRead => exact congrArg _ (takeImageByte_of_not_loading loading _)
    case readFailed => exact congrArg _ (failRead_of_not_loading loading)
    case configByteTimeout => exact congrArg _ (byteTimesOut_of_not_loading loading)
    case imageCheck => exact congrArg _ (checkImage_of_not_checking checking)
    all_goals exact exec_of_held held rfl

/-! ### Cause flags and records (R171) -/

theorem Attention.matched_of_groups {a b : Attention} (h : a.matched)
    (records : ∀ g, b.records.ofGroup g = a.records.ofGroup g) (causes : ∀ g, b.causes.ofGroup g = a.causes.ofGroup g) :
    b.matched := fun g => by rw [records, causes, h]

theorem Attention.cleared_matched {a b : Attention} {what : Byte} (h : a.matched) (cleared : a.cleared what = some b) :
    b.matched := by
  have group (g : FaultGroup) : (a.clearGroup g).matched := by
    intro g'
    rw [Attention.clearGroup, Causes.ofGroup_setGroup, FaultRecords.ofGroup_setGroup]
    split_ifs
    · rfl
    · exact h g'
  unfold Attention.cleared at cleared
  split at cleared
  · exact Option.some.inj cleared ▸ group _
  · split_ifs at cleared
    · exact Option.some.inj cleared ▸ Attention.matched_of_groups h (fun _ => rfl) fun g => by cases g <;> rfl
    · exact Option.some.inj cleared ▸ fun g => by cases g <;> rfl

theorem Attention.raisePlan_matched {a : Attention} (h : a.matched) : a.raisePlan.matched :=
  Attention.matched_of_groups h (fun _ => rfl) fun g => by cases g <;> rfl

theorem matched_of_eq {s t : State} (h : s.attention.matched) (same : t.attention = s.attention) : t.attention.matched :=
  same ▸ h

theorem completeSweep_attention (s : State) :
    s.completeSweep.attention = s.attention ∨ s.completeSweep.attention = s.attention.raisePlan := by
  unfold State.completeSweep
  split
  · exact .inl rfl
  next sweep _ =>
    have same (t : State) (m : SelectorMap) : (t.commitMap m).attention = t.attention :=
      commitMap_only t m .attention (by decide)
    dsimp only
    split_ifs
    · exact .inr (same _ _)
    · exact .inl (same _ _)
    · exact .inr (same _ _)
    · exact .inl (same _ _)


theorem report_matched {s : State} (h : s.attention.matched) (g : FaultGroup) (kind : FaultKind) (detail : Nat) :
    (s.report g kind detail).attention.matched := Attention.report_matched h g kind detail

theorem receive_matched {s : State} (h : s.attention.matched) (x : Side) (frame : List Byte) :
    (s.receive x frame).attention.matched := by
  unfold State.receive
  split_ifs
  · exact h
  · split
    · exact report_matched h _ _ _
    · exact report_matched h _ _ _
    · unfold State.acceptFrame
      dsimp only
      split_ifs
      · exact (handStanding_works _ _ _).matched h
      · exact h

theorem linkExpires_matched {s : State} (h : s.attention.matched) (x : Side) :
    (s.linkExpires x).attention.matched := by
  unfold State.linkExpires
  dsimp only
  split_ifs
  · exact (handStanding_works _ _ _).matched (report_matched h _ _ _)
  · exact h

theorem answerExpires_matched {s : State} (h : s.attention.matched) (x : Side) :
    (s.answerExpires x).attention.matched := by
  unfold State.answerExpires
  dsimp only
  split_ifs
  · exact (closeSwitch_works _).matched (report_matched h _ _ _)
  · exact h

theorem completeSweep_matched {s : State} (h : s.attention.matched) : s.completeSweep.attention.matched := by
  obtain same | raised := completeSweep_attention s
  · exact matched_of_eq h same
  · exact raised ▸ Attention.raisePlan_matched h

theorem takeDone_matched {s : State} (h : s.attention.matched) (g : Nat) : (s.takeDone g).attention.matched := by
  unfold State.takeDone
  split
  · exact h
  · split_ifs
    · refine matched_of_eq ?_ (tryPublish_only _ .attention (by decide))
      exact (switchTakesCompletion_works (s.setFabric { s.fabric with inFlight := none }) _).matched h
    · exact h

theorem fabricExpires_matched {s : State} (h : s.attention.matched) : s.fabricExpires.attention.matched := by
  unfold State.fabricExpires
  split
  · exact h
  · split_ifs
    · unfold State.timeOut
      dsimp only
      split_ifs
      · exact matched_of_eq (report_matched h _ _ _) (tryPublish_only _ .attention (by decide))
      · exact report_matched h _ _ _
    · exact h

theorem softRestart_matched (s : State) : s.softRestart.attention.matched := by
  have cleared : s.clearForRestart.attention.matched := fun g => by cases g <;> rfl
  unfold State.softRestart
  split_ifs
  · exact (startBlocks_works s.clearForRestart).matched cleared
  · exact cleared

theorem writeSettings_matched {s : State} (h : s.attention.matched) (b : SettingsBody) :
    (s.writeSettings b).attention.matched := by
  have triggered : (if s.changesTransit b then (s.storeSettings b).trigger else s.storeSettings b).attention.matched := by
    split_ifs
    · exact (Works.trigger _).matched h
    · exact h
  unfold State.writeSettings
  dsimp only
  split_ifs at triggered ⊢
  · exact triggered
  · exact triggered
  · exact (eachSide_works _ fun x t => formRaw_works t x).matched triggered
  · exact (eachSide_works _ fun x t => formRaw_works t x).matched triggered

theorem Served.matched {code : Byte} {s t : State} (served : Served code s t) (h : s.attention.matched) :
    t.attention.matched := by
  cases served with
  | same => exact h
  | add => exact (Works.trigger _).matched h
  | edit =>
    unfold State.editCircuit
    dsimp only
    split_ifs
    · exact (Works.trigger _).matched h
    · exact h
  | retire => exact (Works.trigger _).matched h
  | walk => exact h
  | delay =>
    unfold State.setDelay
    dsimp only
    split_ifs
    · exact h
    · exact (Works.trigger _).matched h
  | operator =>
    unfold State.setOperator
    dsimp only
    split_ifs
    · exact h
    · exact (changeLocal_works s _ _).matched h
  | release => exact (changeLocal_works s _ _).matched h
  | settings => exact writeSettings_matched h _
  | freeze => exact matched_of_eq h (setFreezeFlag_only s _ .attention (by decide))
  | arm =>
    unfold State.armPart
    split_ifs
    · exact h
    · exact (Works.trigger _).matched (matched_of_eq h (gateFormed_only _ _ .attention (by decide)))
  | restart => exact softRestart_matched s
  | clear cleared => exact Attention.cleared_matched h cleared

theorem Happens.matched {s t : State} (event : Happens s t) (h : s.attention.matched) : t.attention.matched := by
  cases event with
  | receiver => exact (formRaw_works _ _).matched h
  | freezePin => exact matched_of_eq h (takeFreezePin_only s _ .attention (by decide))
  | period => exact h
  | dimExpires => exact (dimExpires_works s _).matched h
  | darkExpires => exact (darkExpires_works s _).matched h
  | soakExpires => exact (soakExpires_works s _).matched h
  | receives => exact receive_matched h _ _
  | linkExpires => exact linkExpires_matched h _
  | settleExpires => exact (settleExpires_works s _).matched h
  | echoExpires => exact (echoExpires_works s _).matched h
  | answerExpires => exact answerExpires_matched h _
  | completes => exact completeSweep_matched h
  | done => exact takeDone_matched h _
  | fabricExpires => exact fabricExpires_matched h

theorem Does.matched {c : Instr} {s t : State} (does : Does c s t) (h : s.attention.matched) : t.attention.matched := by
  cases does with
  | idle => exact h
  | reset => exact fun g => by cases g <;> rfl
  | release => exact matched_of_eq h (releaseReset_only s .attention (by decide))
  | imageByte => exact matched_of_eq h (takeImageByte_only s _ .attention (by decide))
  | loadFails => exact report_matched (s := s.setLoader _) h _ _ _
  | loads => exact (startBlocks_works _).matched h
  | happens event => exact event.matched h
  | notReady =>
    unfold State.notReadyWindow
    dsimp only
    split_ifs
    · exact h
    · exact report_matched (s := s.setMgmt _) h _ _ _
  | shows => exact h
  | corrupt => exact report_matched (s := s.deliver _) h _ _ _
  | unknown => exact report_matched (s := s.deliver _) h _ _ _
  | serves _ _ served => exact served.matched h

/-! ### RDY and the slots (R153) -/

theorem Served.out {code : Byte} {s t : State} (served : Served code s t) (out : s.loader.load ≠ .noLoad) :
    t.loader.load ≠ .noLoad := by
  obtain same | ⟨-, armed⟩ | ⟨-, disarmed⟩ | ⟨-, reloaded⟩ := served.loader
  · rwa [same]
  · rwa [armed]
  · rwa [disarmed]
  · simp [reloaded, State.beginLoad, State.setLoader]

section Port

variable {s t : State}

theorem portSound_of_same (h : PortSound s) (mgmt : t.mgmt = s.mgmt) (loader : t.loader = s.loader) : PortSound t := by
  unfold PortSound
  rw [mgmt, loader]
  exact h

/-- Out of reset before and after, with the port as it was but for what MDO carried. -/
theorem portSound_of_out (h : PortSound s) (slot : t.mgmt.requestSlot = s.mgmt.requestSlot)
    (rdy : t.mgmt.rdy = s.mgmt.rdy) (before : s.loader.load ≠ .noLoad) (after : t.loader.load ≠ .noLoad) :
    PortSound t := by
  obtain ⟨free, ready, -⟩ := h
  exact ⟨slot.trans free, by simp [rdy, ready, before, after], fun held => absurd held after⟩

/-- A window that moves MDO alone. -/
theorem portSound_of_mdo (h : PortSound s) (mgmt : ∃ shown, t.mgmt = { s.mgmt with mdo := shown })
    (loader : t.loader = s.loader) : PortSound t := by
  obtain ⟨shown, mgmt⟩ := mgmt
  unfold PortSound
  rw [mgmt, loader]
  exact h

/-- An answer leaves the request slot free and RDY high. -/
theorem portSound_of_answer (code : Byte) (a : Reply) (out : t.loader.load ≠ .noLoad) : PortSound (t.answer code a) :=
  ⟨rfl, iff_of_true rfl out, fun held => absurd held out⟩

end Port

theorem Does.portSound {c : Instr} {s t : State} (does : Does c s t) (h : PortSound s) : PortSound t := by
  have out (rdy : s.mgmt.rdy = true) : s.loader.load ≠ .noLoad := h.2.1.mp rdy
  cases does with
  | idle => exact h
  | reset => exact ⟨rfl, iff_of_false Bool.false_ne_true (fun out => out rfl), fun _ => rfl⟩
  | release held =>
    have released : s.releaseReset =
        s.beginLoad.setMgmt { s.mgmt with requestSlot := none, answerSlot := none, rdy := true } :=
      if_pos (by simp [State.inReset, held])
    rw [released]
    exact ⟨rfl, iff_of_true rfl (by simp [State.beginLoad, State.setLoader, State.setMgmt]), fun _ => rfl⟩
  | @imageByte value loading =>
    have mgmt := takeImageByte_only s value .mgmt (by decide)
    refine portSound_of_out h (by rw [mgmt]) (by rw [mgmt]) (by simp [loading]) ?_
    unfold State.takeImageByte
    dsimp only
    split_ifs <;> simp [State.setLoader, loading]
  | loadFails busy =>
    exact portSound_of_out h rfl rfl (by obtain h | h := busy <;> simp [h]) (by simp [State.failLoad, State.report])
  | loads checking =>
    have mgmt := finishLoad_only s .mgmt (by decide)
    have loader := finishLoad_loader s
    exact portSound_of_out h (by rw [mgmt]) (by rw [mgmt]) (by simp [checking]) (by simp [loader])
  | happens event => exact portSound_of_same h (event.only .mgmt (by decide)) (event.only .loader (by decide))
  | notReady =>
    refine portSound_of_mdo h ⟨some Answer.filler, ?_⟩ (notReadyWindow_only s _ .loader (by decide))
    unfold State.notReadyWindow
    dsimp only
    split_ifs <;> rfl
  | shows => exact portSound_of_mdo h ⟨_, rfl⟩ rfl
  | corrupt rdy => exact portSound_of_answer _ _ (out rdy)
  | unknown rdy => exact portSound_of_answer _ _ (out rdy)
  | serves rdy _ served => exact portSound_of_answer _ _ (served.out (out rdy))

/-! ### The settings (R50, R75) -/

/-- The settings lie in their ranges, told of them alone. -/
def Settings.inRange (x : Settings) : Prop :=
  x.holdOff ≤ 100 ∧ 1 ≤ x.clearSoak ∧ x.clearSoak ≤ 60 ∧ x.settle ≤ 720 ∧ 1 ≤ x.dimThreshold ∧ x.dimThreshold ≤ 15

theorem settingsInRange_iff {s : State} : SettingsInRange s ↔ s.settings.inRange := Iff.rfl

theorem le_clampTo (low high n : Nat) : low ≤ clampTo low high n := Nat.le_max_left ..

theorem clampTo_le {low high : Nat} (h : low ≤ high) (n : Nat) : clampTo low high n ≤ high :=
  Nat.max_le.mpr ⟨h, Nat.min_le_right ..⟩

theorem imageSettings_inRange (image : List Byte) : (imageSettings image).inRange :=
  ⟨clampTo_le (by decide) _, le_clampTo .., clampTo_le (by decide) _, clampTo_le (by decide) _, le_clampTo ..,
    clampTo_le (by decide) _⟩

theorem Settings.given_inRange {x : Settings} (h : x.inRange) (b : SettingsBody) : (x.given b).inRange := by
  obtain ⟨hold, soak1, soak, settle, dim1, dim⟩ := h
  have choose {p : Bool} {a b : Nat} {q : Nat → Prop} (yes : q a) (no : q b) : q (if p then a else b) := by
    split
    · exact yes
    · exact no
  exact ⟨choose (q := (· ≤ 100)) (clampTo_le (by decide) _) hold, choose (q := (1 ≤ ·)) (le_clampTo ..) soak1,
    choose (q := (· ≤ 60)) (clampTo_le (by decide) _) soak, choose (q := (· ≤ 720)) (clampTo_le (by decide) _) settle,
    choose (q := (1 ≤ ·)) (le_clampTo ..) dim1, choose (q := (· ≤ 15)) (clampTo_le (by decide) _) dim⟩

theorem writeSettings_settings (s : State) (b : SettingsBody) : (s.writeSettings b).settings = s.settings.given b := by
  have triggered : (if s.changesTransit b then (s.storeSettings b).trigger else s.storeSettings b).settings =
      s.settings.given b := by
    split_ifs
    · exact trigger_only _ .settings (by decide)
    · rfl
  unfold State.writeSettings
  dsimp only
  generalize (if s.changesTransit b then (s.storeSettings b).trigger else s.storeSettings b) = u at triggered ⊢
  split_ifs
  · exact triggered
  · exact (eachSide_works u fun x t => formRaw_works t x).settings.trans triggered

theorem Served.settings_eq {code : Byte} {s t : State} (served : Served code s t) :
    t.settings = s.settings ∨ ∃ b, t.settings = s.settings.given b := by
  cases served with
  | same => exact .inl rfl
  | add => exact .inl (addCircuit_only s _ .settings (by decide))
  | edit => exact .inl (editCircuit_only s _ _ .settings (by decide))
  | retire => exact .inl (retireCircuit_only s _ .settings (by decide))
  | walk => exact .inl rfl
  | delay => exact .inl (setDelay_only s _ _ .settings (by decide))
  | operator => exact .inl (setOperator_only s _ _ .settings (by decide))
  | release => exact .inl (changeLocal_only s _ _ .settings (by decide))
  | settings => exact .inr ⟨_, writeSettings_settings s _⟩
  | freeze => exact .inl (setFreezeFlag_only s _ .settings (by decide))
  | arm => exact .inl (armPart_only s .settings (by decide))
  | restart => exact .inl (softRestart_only s .settings (by decide))
  | clear => exact .inl rfl

theorem Does.settingsInRange {c : Instr} {s t : State} (does : Does c s t) (h : SettingsInRange s) :
    SettingsInRange t := by
  have kept {t : State} (same : t.settings = s.settings) : SettingsInRange t := by
    rw [settingsInRange_iff, same]
    exact h
  cases does with
  | idle => exact h
  | reset => exact show Settings.atReset.inRange by simp [Settings.inRange, Settings.atReset]
  | release => exact kept (releaseReset_only s .settings (by decide))
  | imageByte => exact kept (takeImageByte_only s _ .settings (by decide))
  | loadFails => exact kept rfl
  | loads =>
    have loaded : s.finishLoad.settings = imageSettings s.loader.image := startBlocks_only _ .settings (by decide)
    rw [settingsInRange_iff, loaded]
    exact imageSettings_inRange _
  | happens event => exact kept (event.only .settings (by decide))
  | notReady => exact kept (notReadyWindow_only s _ .settings (by decide))
  | shows => exact h
  | corrupt => exact h
  | unknown => exact h
  | serves _ _ served =>
    obtain same | ⟨b, given⟩ := served.settings_eq
    · exact kept same
    · rw [settingsInRange_iff]
      exact given ▸ Settings.given_inRange h b

/-! ### The blocks held until LOADED -/

section Held

variable {s t : State}

/-- The blocks held until LOADED stand at their held values (R44, R55, R66, R91, R110, R131, R150). -/
structure HeldBlocks (s : State) : Prop where
  monitors : s.monitors = ⟨Monitor.held, Monitor.held⟩
  requests : s.requests = RequestUnit.held
  protocol : s.protocol = SwitchUnit.held
  plan : s.plan = PlanEngine.idle
  committed : s.fabric.committed = none
  inFlight : s.fabric.inFlight = none
  ports : ∀ x : Side, (s.ports.get x).transmit = none ∧ (s.ports.get x).run = none ∧ (s.ports.get x).standing = none ∧
    (s.ports.get x).link = .down ∧ (s.ports.get x).downTimer = none

theorem blocksHeld_iff : BlocksHeld s ↔ (s.loader.load ≠ .loaded → HeldBlocks s) := by
  constructor
  · intro h out
    obtain ⟨monitors, requests, protocol, plan, committed, inFlight, ports⟩ := h out
    exact ⟨monitors, requests, protocol, plan, committed, inFlight, ports⟩
  · intro h out
    obtain ⟨monitors, requests, protocol, plan, committed, inFlight, ports⟩ := h out
    exact ⟨monitors, requests, protocol, plan, committed, inFlight, ports⟩

/-- Blocks that a change does not touch stay held. -/
theorem HeldBlocks.of_only {bs : List Block} (h : HeldBlocks s) (only : onlyChanges bs s t)
    (apart : ∀ b ∈ bs, b ∉ [Block.monitors, .requests, .protocol, .plan, .fabric, .ports]) : HeldBlocks t := by
  have same (b : Block) (hb : b ∈ [Block.monitors, .requests, .protocol, .plan, .fabric, .ports]) : sameBlock s t b :=
    only b fun touched => apart b touched hb
  have monitors : t.monitors = s.monitors := same .monitors (by decide)
  have requests : t.requests = s.requests := same .requests (by decide)
  have protocol : t.protocol = s.protocol := same .protocol (by decide)
  have plan : t.plan = s.plan := same .plan (by decide)
  have fabric : t.fabric = s.fabric := same .fabric (by decide)
  have ports : t.ports = s.ports := same .ports (by decide)
  exact ⟨monitors.trans h.monitors, requests.trans h.requests, protocol.trans h.protocol, plan.trans h.plan,
    by rw [fabric, h.committed], by rw [fabric, h.inFlight], by rw [ports]; exact h.ports⟩

theorem HeldBlocks.monitor (h : HeldBlocks s) (x : Side) : s.monitors.get x = Monitor.held := by
  rw [h.monitors]
  cases x <;> rfl

theorem HeldBlocks.request (h : HeldBlocks s) (x : Side) : s.requests.sides.get x = LocalRequest.idle := by
  rw [h.requests]
  cases x <;> rfl

theorem HeldBlocks.side (h : HeldBlocks s) (x : Side) : s.protocol.sides.get x = SwitchSide.held := by
  rw [h.protocol]
  cases x <;> rfl

/-- With no map committed nothing is published. -/
theorem tryPublish_of_uncommitted (h : s.fabric.committed = none) : s.tryPublish = s := by
  unfold State.tryPublish
  rw [h]
  split <;> simp_all

theorem formRaw_of_not_running (h : s.running = false) (x : Side) : s.formRaw x = s := by
  simp [State.formRaw, h]

theorem receive_of_not_running (h : s.running = false) (x : Side) (frame : List Byte) : s.receive x frame = s := by
  simp [State.receive, h]

theorem takeFreezePin_held (h : HeldBlocks s) (asserted : Bool) :
    s.takeFreezePin asserted = s.setPins { s.pins with freeze := asserted } := by
  unfold State.takeFreezePin State.gateFormed
  split_ifs
  · exact tryPublish_of_uncommitted h.committed
  · rfl

theorem beginPeriod_held (h : HeldBlocks s) : HeldBlocks s.beginPeriod :=
  ⟨h.monitors, h.requests, h.protocol, h.plan, h.committed, h.inFlight, fun x => by cases x <;> exact h.ports _⟩

/-- Of the events, while the part is not LOADED, only the pins and the clock go on. -/
theorem Happens.held (event : Happens s t) (out : s.running = false) (h : HeldBlocks s) : HeldBlocks t := by
  cases event with
  | receiver =>
    rw [formRaw_of_not_running ((s.setPins_running _).trans out)]
    exact h.of_only (setPins_only s _) (by decide)
  | freezePin =>
    rw [takeFreezePin_held h]
    exact h.of_only (setPins_only s _) (by decide)
  | period => exact beginPeriod_held h
  | dimExpires => rwa [State.dimExpires_early (by rw [h.monitor]; rfl)]
  | darkExpires => rwa [State.darkExpires_early (by rw [h.monitor]; rfl)]
  | soakExpires => rwa [State.soakExpires_early (by rw [h.monitor]; rfl)]
  | receives => rwa [receive_of_not_running out]
  | @linkExpires x =>
    obtain ⟨-, -, -, -, stopped⟩ := h.ports x
    rwa [State.linkExpires_early (by rw [stopped]; rfl)]
  | settleExpires => rwa [State.settleExpires_early (by rw [h.request]; rfl)]
  | echoExpires => rwa [State.echoExpires_early (by rw [h.request]; rfl)]
  | answerExpires => rwa [State.answerExpires_early (by rw [h.side]; rfl)]
  | completes => simpa [State.completeSweep, h.plan, PlanEngine.idle] using h
  | done => simpa [State.takeDone, h.inFlight] using h
  | fabricExpires => rwa [State.fabricExpires_early (by simp [h.inFlight])]

/-- A SETTINGS-WRITE that gives the masks alone stores them and nothing else (R156). -/
theorem writeSettings_of_masks_alone {b : SettingsBody} (alone : b.marks.toNat % 64 = 1) :
    s.writeSettings b = s.storeSettings b := by
  have gives (k : Nat) (h : b.marks.toNat / 2 ^ k % 2 = 0) : b.gives k = false := by simp [SettingsBody.gives, bitOf, h]
  have transit : s.changesTransit b = false := by
    simp [State.changesTransit, Ring.givenTransit, gives 1 (by omega)]
  have dim : (s.storeSettings b).settings.dimThreshold = s.settings.dimThreshold := by
    simp [State.storeSettings, Settings.given, gives 2 (by omega)]
  simp [State.writeSettings, transit, dim]

theorem clearForRestart_holdBlocks_held (s : State) : HeldBlocks s.clearForRestart.holdBlocks.beginLoad :=
  ⟨rfl, rfl, rfl, rfl, rfl, rfl, fun x => by cases x <;> exact ⟨rfl, rfl, rfl, rfl, rfl⟩⟩

theorem Served.held {code : Byte} (served : Served code s t) (out : s.running = false) (h : HeldBlocks s) :
    HeldBlocks t := by
  have running {p : Prop} (on : s.running = true) : p := absurd (on.symm.trans out) (by decide)
  cases served with
  | same => exact h
  | add on => exact running on
  | edit on => exact running on
  | retire on => exact running on
  | walk on => exact running on
  | delay on => exact running on
  | operator on => exact running on
  | release on => exact running on
  | settings given =>
    rw [writeSettings_of_masks_alone (given.resolve_left fun on => running on)]
    exact h.of_only (storeSettings_only s _) (by decide)
  | freeze on => exact running on
  | arm on => exact running on
  | restart =>
    rw [State.softRestart, if_neg (by simp [out])]
    exact clearForRestart_holdBlocks_held s
  | clear => exact h.of_only (setAttention_only s _) (by decide)

/-- A LOADED part stays LOADED but for a reset. -/
theorem Does.loaded {c : Instr} (does : Does c s t) (loaded : s.loader.load = .loaded) :
    t = s.toReset ∨ t.loader.load = .loaded := by
  cases does with
  | idle => exact .inr loaded
  | reset => exact .inl rfl
  | release held => exact absurd (held.symm.trans loaded) (by decide)
  | imageByte loading => exact absurd (loading.symm.trans loaded) (by decide)
  | loadFails busy => simp [loaded] at busy
  | loads => exact .inr (congrArg Loader.load (finishLoad_loader s))
  | happens event => exact .inr ((congrArg Loader.load (event.only .loader (by decide))).trans loaded)
  | notReady => exact .inr ((congrArg Loader.load (notReadyWindow_only s _ .loader (by decide))).trans loaded)
  | shows => exact .inr loaded
  | corrupt => exact .inr loaded
  | unknown => exact .inr loaded
  | serves _ _ served =>
    obtain same | ⟨-, armed⟩ | ⟨-, disarmed⟩ | ⟨out, -⟩ := served.loader
    · exact .inr ((congrArg Loader.load same).trans loaded)
    · exact .inr ((congrArg Loader.load armed).trans loaded)
    · exact .inr ((congrArg Loader.load disarmed).trans loaded)
    · have out : s.running = false := out
      simp [State.running, loaded] at out

theorem toReset_held (s : State) : HeldBlocks s.toReset :=
  ⟨rfl, rfl, rfl, rfl, rfl, rfl, fun x => by cases x <;> exact ⟨rfl, rfl, rfl, rfl, rfl⟩⟩

/-- Before LOADED and after a command that does not lead there, the blocks stay held. -/
theorem Does.held {c : Instr} (does : Does c s t) (out : s.running = false) (after : t.loader.load ≠ .loaded)
    (h : HeldBlocks s) : HeldBlocks t := by
  cases does with
  | idle => exact h
  | reset => exact toReset_held s
  | release => exact h.of_only (releaseReset_only s) (by decide)
  | imageByte => exact h.of_only (takeImageByte_only s _) (by decide)
  | loadFails => exact h.of_only (failLoad_only s _ _) (by decide)
  | loads => exact absurd (congrArg Loader.load (finishLoad_loader s)) after
  | happens event => exact event.held out h
  | notReady => exact h.of_only (notReadyWindow_only s _) (by decide)
  | shows => exact h.of_only (showAnswer_only s) (by decide)
  | corrupt => exact h.of_only (corruptFrame_only s _) (by decide)
  | unknown => exact ⟨h.monitors, h.requests, h.protocol, h.plan, h.committed, h.inFlight, h.ports⟩
  | serves _ _ served =>
    exact (served.held out (h.of_only (deliver_only s _) (by decide))).of_only (answer_only _ _ _) (by decide)

theorem Does.blocksHeld {c : Instr} (does : Does c s t) (h : BlocksHeld s) : BlocksHeld t := by
  rw [blocksHeld_iff] at *
  intro after
  by_cases before : s.loader.load = .loaded
  · obtain reset | loaded := does.loaded before
    · exact reset ▸ toReset_held s
    · exact absurd loaded after
  · exact does.held (by simp [State.running, before]) after (h before)

end Held

/-- Settles O59: each invariant is kept by what a command does. -/
theorem flagsStaySound : Obligations.FlagsStaySound := by
  unfold Obligations.FlagsStaySound
  intro s t run
  refine ⟨fun h => ?_, fun h => ?_, fun h => ?_, fun h => ?_, fun h => ?_, fun h => ?_⟩
  · exact step_keeps (P := CausesMatchRecords) (fun _ _ h => h) Does.matched h run
  · exact step_keeps (P := ArmedOnlyLoaded) (fun _ _ h => h) (fun does h => does.loader.armedOnlyLoaded h) h run
  · exact step_keeps (P := PortSound) (fun _ _ h => h) Does.portSound h run
  · exact step_keeps (P := SettingsInRange) (fun _ _ h => h) Does.settingsInRange h run
  · exact step_keeps (P := LoaderSound) (fun _ _ h => h) (fun does h => does.loader.sound h) h run
  · exact step_keeps (P := BlocksHeld) (fun _ _ h => h) Does.blocksHeld h run

end Sys2Proof.Machine
end

section
/-!
Proofs about the supervisory links (chapter 4): a link is UP exactly while a notice stands and its timer runs. A request, but
for a RESTART, is work behind a preparation that leaves the lines, the links and the units; so is an event, but for what the
link ports do themselves.
-/

namespace Sys2Proof.Machine

/-! ### Requests as work behind a preparation -/

/-- What a request may prepare before its work. -/
abbrev preparedReach : List Block := [.loader, .ring, .settings, .table, .fabric, .attention]

theorem Served.works {code : Byte} {s t : State} (served : Served code s t) :
    (code = 0x51#8 ∧ t = s.softRestart) ∨ ∃ v, onlyChanges preparedReach s v ∧ Works v t := by
  have alone {t : State} (only : onlyChanges preparedReach s t) : ∃ v, onlyChanges preparedReach s v ∧ Works v t :=
    ⟨t, only, .refl t⟩
  cases served with
  | same => exact .inr (alone (onlyChanges_refl _ s))
  | add => exact .inr ⟨_, onlyChanges_mono (setTable_only s _) (by decide), .trigger _⟩
  | edit =>
    exact .inr ⟨_, onlyChanges_mono (setTable_only s _) (by decide), .ite (.trigger _) (.refl _)⟩
  | retire => exact .inr ⟨_, onlyChanges_mono (setTable_only s _) (by decide), .trigger _⟩
  | walk => exact .inr (alone (onlyChanges_mono (setTable_only s _) (by decide)))
  | delay =>
    exact .inr ⟨_, onlyChanges_mono (setRing_only s _) (by decide), .ite (.refl _) (.trigger _)⟩
  | operator => exact .inr ⟨s, onlyChanges_refl _ s, .ite (.refl s) (changeLocal_works s _ _)⟩
  | release => exact .inr ⟨s, onlyChanges_refl _ s, changeLocal_works s _ _⟩
  | @settings b => exact .inr ⟨_, onlyChanges_mono (storeSettings_only s b) (by decide), writeSettings_works s b⟩
  | freeze => exact .inr (alone (onlyChanges_mono (setFreezeFlag_only s _) (by decide)))
  | arm =>
    unfold State.armPart
    split_ifs
    · exact .inr (alone (onlyChanges_refl _ s))
    · exact .inr ⟨_, onlyChanges_chain (setLoader_only s _) (gateFormed_only _ _) (by decide) (by decide), .trigger _⟩
  | restart named => exact .inl ⟨named, rfl⟩
  | clear => exact .inr (alone (onlyChanges_mono (setAttention_only s _) (by decide)))

/-- A DONE that counts is the unit's work between two changes of the Fabric Port (R146). -/
theorem takeDone_works (s : State) (g : Nat) :
    s.takeDone g = s ∨ ∃ v w, onlyChanges [.fabric] s v ∧ Works v w ∧ onlyChanges [.fabric] w (s.takeDone g) := by
  unfold State.takeDone
  split
  · exact .inl rfl
  · split_ifs
    · exact .inr ⟨_, _, setFabric_only s _, switchTakesCompletion_works _ _, tryPublish_only _⟩
    · exact .inl rfl

/-! ### The link ports (R60 to R64) -/

/-- A link is UP exactly while a notice stands and its timer runs, told of one port. -/
def Port.sound (p : Port) : Prop :=
  (p.link = .up ↔ p.standing.isSome = true) ∧ (p.link = .up ↔ p.downTimer.isSome = true) ∧
  (∀ run, p.run = some run → 1 ≤ run.count ∧ run.count ≤ 3)

theorem linksSound_iff {s : State} : LinksSound s ↔ ∀ x, (s.ports.get x).sound := Iff.rfl

theorem Port.silent_sound : Port.silent.sound := by simp [Port.sound, Port.silent]

section Links

variable {s t : State}

theorem linksSound_of_same (h : LinksSound s) (same : t.ports = s.ports) : LinksSound t := by
  rw [linksSound_iff, same]
  exact h

theorem Works.linksSound (works : Works s t) (h : LinksSound s) : LinksSound t := by
  intro x
  obtain ⟨n, port⟩ := works.port x
  rw [port]
  exact h x

theorem linksSound_of_setPort (h : LinksSound s) {x : Side} {p : Port} (sound : p.sound) :
    LinksSound (s.setPort x p) := by
  intro y
  rw [State.setPort, State.setPorts_ports, Pair.get_set]
  split_ifs
  · exact sound
  · exact h y

theorem nextRun_bounds {run : Option Run} (h : ∀ r, run = some r → 1 ≤ r.count ∧ r.count ≤ 3) (n : Notice) :
    1 ≤ (nextRun run n).count ∧ (nextRun run n).count ≤ 3 := by
  unfold nextRun
  split
  · simp
  next old =>
    have bounds := h old rfl
    split_ifs
    · simp only
      omega
    · simp

theorem acceptFrame_linksSound (h : LinksSound s) (x : Side) (n : Notice) : LinksSound (s.acceptFrame x n) := by
  obtain ⟨standing, timer, runs⟩ := linksSound_iff.mp h x
  have bounds := nextRun_bounds runs n
  unfold State.acceptFrame
  dsimp only
  split_ifs
  · refine (handStanding_works _ _ _).linksSound (linksSound_of_setPort h ⟨?_, ?_, ?_⟩)
    · simp
    · simp
    · rintro run held
      exact Option.some.inj held ▸ bounds
  · refine linksSound_of_setPort h ⟨standing, ?_, ?_⟩
    · unfold State.downTimerAfter
      cases link : (s.ports.get x).link <;> simp_all
    · rintro run held
      exact Option.some.inj held ▸ bounds

theorem receive_linksSound (h : LinksSound s) (x : Side) (frame : List Byte) : LinksSound (s.receive x frame) := by
  have discard (kind : FaultKind) (detail : Nat) : LinksSound (s.discardFrame x kind detail) := by
    obtain ⟨standing, timer, -⟩ := linksSound_iff.mp h x
    exact linksSound_of_setPort h ⟨standing, timer, by simp⟩
  unfold State.receive
  split_ifs
  · exact h
  · split
    · exact discard _ _
    · exact discard _ _
    · exact acceptFrame_linksSound h x _

theorem linkExpires_linksSound (h : LinksSound s) (x : Side) : LinksSound (s.linkExpires x) := by
  unfold State.linkExpires
  dsimp only
  split_ifs
  · exact (handStanding_works _ _ _).linksSound (linksSound_of_setPort h (by simp [Port.sound]))
  · exact h

theorem Happens.linksSound (event : Happens s t) (h : LinksSound s) : LinksSound t := by
  cases event with
  | receiver => exact (formRaw_works _ _).linksSound h
  | freezePin => exact linksSound_of_same h (takeFreezePin_only s _ .ports (by decide))
  | period => exact fun x => by cases x <;> exact h _
  | dimExpires => exact (dimExpires_works s _).linksSound h
  | darkExpires => exact (darkExpires_works s _).linksSound h
  | soakExpires => exact (soakExpires_works s _).linksSound h
  | receives => exact receive_linksSound h _ _
  | linkExpires => exact linkExpires_linksSound h _
  | settleExpires => exact (settleExpires_works s _).linksSound h
  | echoExpires => exact (echoExpires_works s _).linksSound h
  | answerExpires =>
    unfold State.answerExpires
    dsimp only
    split_ifs
    · exact (closeSwitch_works _).linksSound h
    · exact h
  | completes => exact linksSound_of_same h (completeSweep_only s .ports (by decide))
  | done =>
    obtain same | ⟨v, w, before, works, after⟩ := takeDone_works s _
    · exact same.symm ▸ h
    · exact linksSound_of_same (works.linksSound (linksSound_of_same h (before .ports (by decide))))
        (after .ports (by decide))
  | fabricExpires => exact linksSound_of_same h (fabricExpires_only s .ports (by decide))

theorem freshBlocks_linksSound (s : State) : LinksSound s.freshBlocks := fun x => by
  cases x <;> exact Port.silent_sound

theorem softRestart_linksSound (s : State) : LinksSound s.softRestart := by
  unfold State.softRestart
  split_ifs
  · exact (startBlocks_works _).linksSound (freshBlocks_linksSound _)
  · exact fun x => by cases x <;> exact Port.silent_sound

theorem Does.linksSound {c : Instr} (does : Does c s t) (h : LinksSound s) : LinksSound t := by
  cases does with
  | idle => exact h
  | reset => exact fun x => by cases x <;> exact Port.silent_sound
  | release => exact linksSound_of_same h (releaseReset_only s .ports (by decide))
  | imageByte => exact linksSound_of_same h (takeImageByte_only s _ .ports (by decide))
  | loadFails => exact h
  | loads => exact (startBlocks_works _).linksSound (freshBlocks_linksSound _)
  | happens event => exact event.linksSound h
  | notReady => exact linksSound_of_same h (notReadyWindow_only s _ .ports (by decide))
  | shows => exact h
  | corrupt => exact h
  | unknown => exact h
  | serves _ _ served =>
    obtain ⟨-, rfl⟩ | ⟨v, only, works⟩ := served.works
    · exact softRestart_linksSound (s.deliver _)
    · exact works.linksSound (linksSound_of_same (s := s.deliver _) h (only .ports (by decide)))

end Links

/-- Settles O53: of a port, the work inside a step changes the transmit content alone, and the link ports' own operations
each leave link, standing notice and timer together. -/
theorem linksStaySound : Obligations.LinksStaySound := by
  unfold Obligations.LinksStaySound
  exact fun s t h run => step_keeps (P := LinksSound) (fun _ _ h => h) Does.linksSound h run

/-! ### The invariants right after reset -/

/-- Settles O60: at reset nothing runs, nothing is held and nothing stands. -/
theorem resetIsSound : Obligations.ResetIsSound := by
  unfold Obligations.ResetIsSound
  have idle : ¬State.reset.running = true := by decide
  refine ⟨fun g => by cases g <;> rfl, fun x => by cases x <;> exact Port.silent_sound, fun x => ?_, ⟨by decide, rfl⟩,
    fun h => absurd h idle, fun h => absurd h idle, ?_, fun h => absurd h (by decide), ?_, ?_, ⟨rfl, rfl, rfl⟩,
    fun _ => ?_, fun h => absurd h idle⟩
  · rw [if_neg idle]
    cases x <;> rfl
  · simp [EngineSound, State.reset, PlanEngine.idle, FabricPort.atReset, State.gateOpen, Loader.atReset]
  · exact ⟨rfl, iff_of_false (by decide) (fun out => out rfl), fun _ => rfl⟩
  · simp [SettingsInRange, State.reset, Settings.atReset]
  · exact ⟨rfl, rfl, rfl, rfl, rfl, rfl, fun x => by cases x <;> exact ⟨rfl, rfl, rfl, rfl, rfl⟩⟩

end Sys2Proof.Machine
end

section
/-!
Proofs about the Line Monitors (chapter 3): a raw level formed again leaves the timers Table 14 names, a change of a link or
of the DIM threshold reaches the monitors it concerns, and no other block touches a monitor.
-/

namespace Sys2Proof.Machine

/-! ### The takers of a standing-notice change -/

theorem mem_takersInOrder (order : TakingOrder) (t : Taker) : t ∈ takersInOrder order := by
  cases order <;> cases t <;> decide

/-- What one element of a fold brings about stands at its end, when every element keeps it; `P` is what holds until
then. -/
theorem foldl_reaches {α : Type} {f : State → α → State} {P Q : State → Prop} (a : α) (keepsP : ∀ s b, P s → P (f s b))
    (reach : ∀ s, P s → Q (f s a)) (keepsQ : ∀ s b, P s → Q s → Q (f s b)) :
    ∀ (l : List α) (s : State), a ∈ l → P s → Q (l.foldl f s) := by
  have keeps (l : List α) : ∀ s, P s → Q s → Q (l.foldl f s) := by
    induction l with
    | nil => exact fun _ _ q => q
    | cons b l ih => exact fun s p q => ih _ (keepsP s b p) (keepsQ s b p q)
  intro l
  induction l with
  | nil => exact fun _ mem => absurd mem List.not_mem_nil
  | cons b l ih =>
    intro s mem p
    obtain rfl | mem := List.mem_cons.mp mem
    · exact keeps l _ (keepsP s a p) (reach s p)
    · exact ih _ mem (keepsP s b p)

/-- What one taker of a standing-notice change brings about stands after the change, whatever the order, when every taker
keeps it. -/
theorem handStanding_reaches {x : Side} {linkChanged : Bool} {P Q : State → Prop} (taker : Taker)
    (keepsP : ∀ s t, P s → P (s.takesStanding x linkChanged t))
    (reach : ∀ s, P s → Q (s.takesStanding x linkChanged taker))
    (keepsQ : ∀ s t, P s → Q s → Q (s.takesStanding x linkChanged t)) {s : State} (start : P s.dropOrder) :
    Q (s.handStanding x linkChanged) :=
  foldl_reaches taker keepsP reach keepsQ _ _ (mem_takersInOrder _ taker) start

/-- What every taker keeps stands after the change. -/
theorem handStanding_keeps {x : Side} {linkChanged : Bool} {P : State → Prop}
    (keeps : ∀ s t, P s → P (s.takesStanding x linkChanged t)) {s : State} (start : P s.dropOrder) :
    P (s.handStanding x linkChanged) :=
  handStanding_reaches (P := P) .switchUnit keeps (fun s p => keeps s _ p) (fun s t _ p => keeps s t p) start

/-! ### A raw level formed again -/

section Monitors

variable {s t : State}

/-- The timers set after a raw change are those Table 14 names, whatever stood before. -/
theorem monitorAfter_timed (s : State) (m : Monitor) (raw : Level) : (s.monitorAfter m raw).timed := by
  let raised : Monitor := { m with raw := raw, declared := s.raisedAtOnce { m with raw := raw } }
  have dim : (s.dimTimerAfter raised).isSome = true ↔ raised.raw ≠ .clear ∧ raised.declared = .clear := by
    unfold State.dimTimerAfter
    split_ifs with h
    · simp only [Option.isSome_none, Bool.false_eq_true, false_iff]
      tauto
    · have runs : raised.raw ≠ .clear ∧ raised.declared = .clear := by tauto
      split <;> simpa [State.holdOffTimer] using runs
  have dark : (s.darkTimerAfter raised).isSome = true ↔ raised.raw = .dark ∧ raised.declared ≠ .dark := by
    unfold State.darkTimerAfter
    split_ifs with h <;> simp [State.holdOffTimer, h]
  have soak : (s.soakTimerAfter raised).isSome = true ↔ raised.raw.code < raised.declared.code := by
    unfold State.soakTimerAfter
    split_ifs with h <;> simp [h]
  exact ⟨dim, dark, soak⟩

theorem Monitor.held_timed : Monitor.held.timed := by simp [Monitor.timed, Monitor.held]

/-- The Request Unit's work leaves the monitors. -/
theorem declare_monitors (s : State) (x : Side) (old : Level) : (s.declare x old).monitors = s.monitors :=
  declare_only s x old .monitors (by decide)

theorem formRaw_monitors_of_changed (running : s.running = true) {x : Side} (h : s.rawLevel x ≠ (s.monitors.get x).raw) :
    (s.formRaw x).monitors = s.monitors.set x (s.monitorAfter (s.monitors.get x) (s.rawLevel x)) := by
  unfold State.formRaw
  dsimp only
  rw [if_neg (by simp [running, h])]
  exact declare_monitors _ _ _

theorem formRaw_of_same {x : Side} (h : s.rawLevel x = (s.monitors.get x).raw) : s.formRaw x = s := by
  unfold State.formRaw
  dsimp only
  rw [if_pos (by simp [h])]

/-- The monitor of the other side stands. -/
theorem formRaw_monitor_of_ne {x y : Side} (ne : y ≠ x) : (s.formRaw x).monitors.get y = s.monitors.get y := by
  by_cases running : s.running = true
  · by_cases same : s.rawLevel x = (s.monitors.get x).raw
    · rw [formRaw_of_same same]
    · rw [formRaw_monitors_of_changed running same, Pair.get_set, if_neg ne]
  · rw [formRaw_of_not_running (by simpa using running)]

/-- Forming the raw level makes it what the inputs give, and the timers those Table 14 names (R43 to R48). -/
theorem formRaw_monitor_sound (running : s.running = true) {x : Side} (timed : (s.monitors.get x).timed) :
    ((s.formRaw x).monitors.get x).raw = (s.formRaw x).rawLevel x ∧ ((s.formRaw x).monitors.get x).timed := by
  rw [(formRaw_works s x).rawLevel]
  by_cases same : s.rawLevel x = (s.monitors.get x).raw
  · rw [formRaw_of_same same]
    exact ⟨same.symm, timed⟩
  · rw [formRaw_monitors_of_changed running same, Pair.get_set_same]
    exact ⟨rfl, monitorAfter_timed _ _ _⟩

theorem formRaw_timed {x : Side} (timed : ∀ y, (s.monitors.get y).timed) (y : Side) :
    ((s.formRaw x).monitors.get y).timed := by
  by_cases running : s.running = true
  · obtain rfl | ne := eq_or_ne y x
    · exact (formRaw_monitor_sound running (timed y)).2
    · rw [formRaw_monitor_of_ne ne]
      exact timed y
  · rw [formRaw_of_not_running (by simpa using running)]
    exact timed y

/-! ### The invariant -/

theorem monitorsSound_of_not_running (h : s.running = false) : MonitorsSound s ↔ ∀ x, s.monitors.get x = Monitor.held := by
  simp [MonitorsSound, h]

theorem monitorsSound_of_running (h : s.running = true) :
    MonitorsSound s ↔ ∀ x, (s.monitors.get x).raw = s.rawLevel x ∧ (s.monitors.get x).timed := by
  simp [MonitorsSound, h]

theorem MonitorsSound.timed (h : MonitorsSound s) (x : Side) : (s.monitors.get x).timed := by
  cases running : s.running with
  | true => exact ((monitorsSound_of_running running).mp h x).2
  | false =>
    rw [(monitorsSound_of_not_running running).mp h x]
    exact Monitor.held_timed

theorem monitorsSound_of_same (h : MonitorsSound s) (monitors : t.monitors = s.monitors) (running : t.running = s.running)
    (raw : ∀ x, t.rawLevel x = s.rawLevel x) : MonitorsSound t := by
  unfold MonitorsSound
  simp only [monitors, running, raw]
  exact h

/-- Work that leaves the monitors. -/
theorem Works.monitorsSound (works : Works s t) (monitors : t.monitors = s.monitors) (h : MonitorsSound s) :
    MonitorsSound t := monitorsSound_of_same h monitors works.running works.rawLevel

/-- A monitor forms its raw level again: sound where the other side was. -/
theorem formRaw_monitorsSound_of {x : Side} (timed : (s.monitors.get x).timed)
    (out : s.running = false → ∀ y, s.monitors.get y = Monitor.held)
    (other : s.running = true → ∀ y, y ≠ x → (s.monitors.get y).raw = s.rawLevel y ∧ (s.monitors.get y).timed) :
    MonitorsSound (s.formRaw x) := by
  cases running : s.running with
  | false =>
    rw [formRaw_of_not_running running]
    exact (monitorsSound_of_not_running running).mpr (out running)
  | true =>
    have works := formRaw_works s x
    refine (monitorsSound_of_running (works.running.trans running)).mpr fun y => ?_
    obtain rfl | ne := eq_or_ne y x
    · exact formRaw_monitor_sound running timed
    · rw [formRaw_monitor_of_ne ne, works.rawLevel]
      exact other running y ne

theorem formRaw_monitorsSound (h : MonitorsSound s) (x : Side) : MonitorsSound (s.formRaw x) :=
  formRaw_monitorsSound_of (h.timed x) (fun out => (monitorsSound_of_not_running out).mp h)
    fun running y _ => (monitorsSound_of_running running).mp h y

/-- Both monitors form their raw levels, in either order (R51, R52). -/
theorem eachSide_formRaw_monitorsSound (timed : ∀ x, (s.monitors.get x).timed)
    (out : s.running = false → ∀ x, s.monitors.get x = Monitor.held) :
    MonitorsSound (s.eachSide fun x t => t.formRaw x) := by
  have both {u : State} (monitors : u.monitors = s.monitors) (runs : u.running = s.running) {x y : Side} (ne : y ≠ x) :
      MonitorsSound ((u.formRaw x).formRaw y) := by
    have timed (z : Side) : (u.monitors.get z).timed := monitors ▸ timed z
    have works := formRaw_works u x
    refine formRaw_monitorsSound_of (formRaw_timed timed y) (fun held => ?_) fun running z other => ?_
    · have held : u.running = false := works.running ▸ held
      rw [formRaw_of_not_running held, monitors]
      exact out (runs ▸ held)
    · have hz : z = x := by cases x <;> cases y <;> cases z <;> simp_all
      rw [hz]
      exact formRaw_monitor_sound (works.running ▸ running) (timed x)
  unfold State.eachSide
  split_ifs
  · exact both (u := s.dropOrder) rfl rfl (by decide)
  · exact both (u := s.dropOrder) rfl rfl (by decide)

/-! ### The expiries (R45, R46, R48) -/

theorem setMonitor_declare_monitorsSound (h : MonitorsSound s) {x : Side} {m : Monitor} {old : Level}
    (running : s.running = true) (raw : m.raw = (s.monitors.get x).raw) (timed : m.timed) :
    MonitorsSound ((s.setMonitor x m).declare x old) := by
  refine (declare_works _ _ _).monitorsSound (declare_monitors _ _ _) ?_
  refine (monitorsSound_of_running ((s.setMonitors_running _).trans running)).mpr fun y => ?_
  change ((s.monitors.set x m).get y).raw = s.rawLevel y ∧ ((s.monitors.set x m).get y).timed
  rw [Pair.get_set]
  have sound := (monitorsSound_of_running running).mp h
  split_ifs with same
  · exact ⟨raw.trans (same ▸ (sound y).1), timed⟩
  · exact sound y

/-- A timer that is due runs, so the part is LOADED. -/
theorem running_of_due (h : MonitorsSound s) {x : Side} {timer : Monitor → Timer} (stopped : timer Monitor.held = none)
    (due : s.due (timer (s.monitors.get x)) = true) : s.running = true := by
  by_contra out
  rw [(monitorsSound_of_not_running (by simpa using out)).mp h x, stopped] at due
  cases due

theorem isSome_of_due {timer : Timer} (due : s.due timer = true) : timer.isSome = true := by
  cases timer with
  | none => cases due
  | some => rfl

theorem Monitor.timed_dimExpired {m : Monitor} (h : m.timed) (runs : m.dimTimer.isSome = true) :
    ({ m with declared := .dim, dimTimer := none } : Monitor).timed := by
  obtain ⟨dim, dark, soak⟩ := h
  obtain ⟨raw, declared⟩ := dim.mp runs
  refine ⟨by simp, by simpa [declared] using dark, ?_⟩
  rw [declared] at soak
  have clear : ¬m.raw.code < Level.clear.code := Nat.not_lt_zero _
  have low : ¬m.raw.code < Level.dim.code := by
    cases level : m.raw with
    | clear => exact absurd level raw
    | dim => decide
    | dark => decide
  exact soak.trans (iff_of_false clear low)

theorem Monitor.timed_darkExpired {m : Monitor} (h : m.timed) (runs : m.darkTimer.isSome = true) :
    ({ m with declared := .dark, dimTimer := none, darkTimer := none } : Monitor).timed := by
  obtain ⟨-, dark, soak⟩ := h
  obtain ⟨raw, declared⟩ := dark.mp runs
  refine ⟨by simp, by simp, ?_⟩
  rw [raw] at soak
  have high : ¬Level.dark.code < m.declared.code := by cases m.declared <;> simp [Level.code]
  simpa [raw, high] using soak

theorem Monitor.timed_soakExpired {m : Monitor} (h : m.timed) (runs : m.soakTimer.isSome = true) :
    ({ m with declared := m.raw, soakTimer := none } : Monitor).timed := by
  obtain ⟨dim, dark, soak⟩ := h
  have below := soak.mp runs
  refine ⟨?_, ?_, by simp⟩
  · cases raw : m.raw <;> cases declared : m.declared <;> simp_all [Level.code]
  · cases raw : m.raw <;> cases declared : m.declared <;> simp_all [Level.code]

/-! ### What every step keeps -/

theorem takesStanding_monitors_of_ne {x : Side} {linkChanged : Bool} {t : Taker} (h : t ≠ .lineMonitor) :
    (s.takesStanding x linkChanged t).monitors = s.monitors := by
  cases t with
  | switchUnit => exact switchTakesStanding_only s x .monitors (by decide)
  | requestUnit => exact requestTakesStanding_only s x .monitors (by decide)
  | lineMonitor => exact absurd rfl h

/-- Every taker leaves sound monitors sound. -/
theorem takesStanding_monitorsSound (h : MonitorsSound s) (x : Side) (linkChanged : Bool) (t : Taker) :
    MonitorsSound (s.takesStanding x linkChanged t) := by
  by_cases line : t = .lineMonitor
  · subst line
    unfold State.takesStanding
    dsimp only
    split_ifs
    · exact formRaw_monitorsSound h x
    · exact h
  · exact (takesStanding_works x linkChanged s t).monitorsSound (takesStanding_monitors_of_ne line) h

/-- What a link change leaves of the monitors until the Line Monitor takes it: all but the raw level of its side. -/
structure MonitorsAwait (x : Side) (s : State) : Prop where
  timed : ∀ y, (s.monitors.get y).timed
  out : s.running = false → ∀ y, s.monitors.get y = Monitor.held
  other : s.running = true → ∀ y, y ≠ x → (s.monitors.get y).raw = s.rawLevel y

theorem Works.monitorsAwait {x : Side} (works : Works s t) (monitors : t.monitors = s.monitors)
    (h : MonitorsAwait x s) : MonitorsAwait x t := by
  refine ⟨fun y => monitors ▸ h.timed y, fun out => monitors ▸ h.out (works.running ▸ out), fun running y ne => ?_⟩
  rw [monitors, works.rawLevel]
  exact h.other (works.running ▸ running) y ne

theorem formRaw_monitorsSound_of_await {x : Side} (h : MonitorsAwait x s) : MonitorsSound (s.formRaw x) :=
  formRaw_monitorsSound_of (h.timed x) h.out fun running y ne => ⟨h.other running y ne, h.timed y⟩

theorem MonitorsSound.await (h : MonitorsSound s) (x : Side) : MonitorsAwait x s :=
  ⟨h.timed, fun out => (monitorsSound_of_not_running out).mp h,
    fun running y _ => ((monitorsSound_of_running running).mp h y).1⟩

/-- A changed link reaches the monitor of its side, whatever the order of the takers (R42, R63, R64). -/
theorem handStanding_monitorsSound {x : Side} (h : MonitorsAwait x s) : MonitorsSound (s.handStanding x true) := by
  refine handStanding_reaches (P := MonitorsAwait x) (Q := MonitorsSound) .lineMonitor (fun u t await => ?_)
    (fun u await => by exact formRaw_monitorsSound_of_await await) (fun u t _ sound => takesStanding_monitorsSound sound x true t)
    ((Works.order s).monitorsAwait rfl h)
  by_cases line : t = .lineMonitor
  · exact line ▸ (formRaw_monitorsSound_of_await await).await x
  · exact (takesStanding_works x true u t).monitorsAwait (takesStanding_monitors_of_ne line) await

theorem handStanding_monitorsSound_of_unchanged {x : Side} (h : MonitorsSound s) :
    MonitorsSound (s.handStanding x false) :=
  handStanding_keeps (P := MonitorsSound) (fun _ t sound => takesStanding_monitorsSound sound x false t)
    ((Works.order s).monitorsSound rfl h)

theorem rawLevel_of_link {x y : Side} {p : Port} (link : y = x → p.link = (s.ports.get x).link) :
    (s.setPort x p).rawLevel y = s.rawLevel y := by
  have same : ((s.ports.set x p).get y).link = (s.ports.get y).link := by
    rw [Pair.get_set]
    split_ifs with h
    · rw [link h, h]
    · rfl
  unfold State.rawLevel State.setPort
  simp only [State.setPorts_ports, State.setPorts_pins, State.setPorts_settings, same]

/-- A port replaced, its link as it was or the monitor of its side told. -/
theorem setPort_handStanding_monitorsSound {x : Side} {p : Port} {linkChanged : Bool} (h : MonitorsSound s)
    (changed : p.link = (s.ports.get x).link ∨ linkChanged = true) {u : State}
    (only : onlyChanges [.attention] (s.setPort x p) u) : MonitorsSound (u.handStanding x linkChanged) := by
  have monitors : u.monitors = s.monitors := only .monitors (by decide)
  have loader : u.loader = s.loader := only .loader (by decide)
  have running : u.running = s.running := by rw [State.running, loader, State.running]
  have raw (y : Side) : u.rawLevel y = (s.setPort x p).rawLevel y := by
    rw [State.rawLevel, State.rawLevel, only .pins (by decide), only .settings (by decide), only .ports (by decide)]
  obtain same | rfl := changed
  · have sound : MonitorsSound u :=
      monitorsSound_of_same h monitors running fun y => (raw y).trans (rawLevel_of_link fun _ => same)
    cases linkChanged with
    | false => exact handStanding_monitorsSound_of_unchanged sound
    | true => exact handStanding_monitorsSound (sound.await x)
  · refine handStanding_monitorsSound ⟨fun y => monitors ▸ h.timed y, fun out => ?_, fun on y ne => ?_⟩
    · exact monitors ▸ (monitorsSound_of_not_running (running ▸ out)).mp h
    · rw [monitors, raw, rawLevel_of_link fun same => absurd same ne]
      exact ((monitorsSound_of_running (running ▸ on)).mp h y).1

theorem receive_monitorsSound (h : MonitorsSound s) (x : Side) (frame : List Byte) :
    MonitorsSound (s.receive x frame) := by
  have stays {p : Port} (link : p.link = (s.ports.get x).link) : MonitorsSound (s.setPort x p) :=
    monitorsSound_of_same h rfl rfl fun y => rawLevel_of_link fun _ => link
  unfold State.receive
  split_ifs
  · exact h
  · split
    · exact monitorsSound_of_same (stays (p := { s.ports.get x with run := none }) rfl) rfl rfl fun _ => rfl
    · exact monitorsSound_of_same (stays (p := { s.ports.get x with run := none }) rfl) rfl rfl fun _ => rfl
    · unfold State.acceptFrame
      dsimp only
      split_ifs
      · refine setPort_handStanding_monitorsSound h ?_ (onlyChanges_refl _ _)
        cases (s.ports.get x).link
        · exact .inr rfl
        · exact .inl rfl
      · exact stays rfl

theorem linkExpires_monitorsSound (h : MonitorsSound s) (x : Side) : MonitorsSound (s.linkExpires x) := by
  unfold State.linkExpires
  dsimp only
  split_ifs
  · refine setPort_handStanding_monitorsSound h ?_ (report_only _ _ _ _)
    cases (s.ports.get x).link
    · exact .inl rfl
    · exact .inr rfl
  · exact h

theorem receiver_monitorsSound (h : MonitorsSound s) (x : Side) (r : Receiver) :
    MonitorsSound ((s.setPins (s.pins.withReceiver x r)).formRaw x) := by
  refine formRaw_monitorsSound_of (h.timed x) (fun out => ?_) fun on y ne => ?_
  · exact (monitorsSound_of_not_running (s := s) out).mp h
  have raw : (s.setPins (s.pins.withReceiver x r)).rawLevel y = s.rawLevel y := by
    unfold State.rawLevel Pins.withReceiver
    dsimp only
    rw [State.setPins_pins, Pair.get_set, if_neg ne]
    rfl
  rw [raw]
  exact (monitorsSound_of_running (s := s) on).mp h y

/-- Work that leaves the part LOADED or not, the inputs of the monitors and the monitors themselves. -/
theorem monitorsSound_of_only {bs : List Block} (only : onlyChanges bs s t)
    (apart : ∀ b ∈ bs, b ∉ [Block.loader, .pins, .settings, .ports, .monitors]) (h : MonitorsSound s) :
    MonitorsSound t := by
  have kept (b : Block) (held : b ∈ [Block.loader, .pins, .settings, .ports, .monitors]) : sameBlock s t b :=
    only b fun touched => apart b touched held
  have loader : t.loader = s.loader := kept .loader (by decide)
  refine monitorsSound_of_same h (kept .monitors (by decide)) (by rw [State.running, loader, State.running]) fun x => ?_
  rw [State.rawLevel, State.rawLevel, kept .pins (by decide), kept .settings (by decide), kept .ports (by decide)]

theorem Happens.monitorsSound (event : Happens s t) (h : MonitorsSound s) : MonitorsSound t := by
  cases event with
  | receiver => exact receiver_monitorsSound h _ _
  | @freezePin asserted =>
    have only := gateFormed_only (s.setPins { s.pins with freeze := asserted }) s.gateOpen
    refine monitorsSound_of_same h (only .monitors (by decide)) ?_ fun x => ?_
    · rw [State.running, State.takeFreezePin, only .loader (by decide)]
      rfl
    · rw [State.rawLevel, State.takeFreezePin, only .pins (by decide), only .settings (by decide),
        only .ports (by decide)]
      rfl
  | period => exact monitorsSound_of_same h rfl rfl fun x => by cases x <;> rfl
  | @dimExpires x =>
    unfold State.dimExpires
    dsimp only
    split_ifs with due
    · exact setMonitor_declare_monitorsSound h (running_of_due h (timer := Monitor.dimTimer) rfl due) rfl
        (Monitor.timed_dimExpired (h.timed x) (isSome_of_due due))
    · exact h
  | @darkExpires x =>
    unfold State.darkExpires
    dsimp only
    split_ifs with due
    · exact setMonitor_declare_monitorsSound h (running_of_due h (timer := Monitor.darkTimer) rfl due) rfl
        (Monitor.timed_darkExpired (h.timed x) (isSome_of_due due))
    · exact h
  | @soakExpires x =>
    unfold State.soakExpires
    dsimp only
    split_ifs with due
    · exact setMonitor_declare_monitorsSound h (running_of_due h (timer := Monitor.soakTimer) rfl due) rfl
        (Monitor.timed_soakExpired (h.timed x) (isSome_of_due due))
    · exact h
  | receives => exact receive_monitorsSound h _ _
  | linkExpires => exact linkExpires_monitorsSound h _
  | settleExpires =>
    exact (settleExpires_works s _).monitorsSound (settleExpires_only s _ .monitors (by decide)) h
  | echoExpires => exact (echoExpires_works s _).monitorsSound (echoExpires_only s _ .monitors (by decide)) h
  | answerExpires =>
    unfold State.answerExpires
    dsimp only
    split_ifs
    · exact (closeSwitch_works _).monitorsSound (closeSwitch_only _ .monitors (by decide)) h
    · exact h
  | completes => exact monitorsSound_of_only (completeSweep_only s) (by decide) h
  | done =>
    obtain same' | ⟨v, w, before, works, after⟩ := takeDone_works s _
    · exact same'.symm ▸ h
    · refine monitorsSound_of_same h (takeDone_only s _ .monitors (by decide)) ?_ fun x => ?_
      · rw [State.running, takeDone_only s _ .loader (by decide), State.running]
      · rw [State.rawLevel, after .pins (by decide), after .settings (by decide), after .ports (by decide), works.pins,
          works.settings, works.link, before .pins (by decide), before .settings (by decide), before .ports (by decide),
          State.rawLevel]
  | fabricExpires => exact monitorsSound_of_only (fabricExpires_only s) (by decide) h

theorem freshBlocks_timed (s : State) (x : Side) : (s.freshBlocks.monitors.get x).timed := by
  cases x <;> exact Monitor.held_timed

theorem startBlocks_monitorsSound (s : State) : MonitorsSound s.startBlocks :=
  eachSide_formRaw_monitorsSound (freshBlocks_timed s) fun _ x => by cases x <;> rfl

theorem softRestart_monitorsSound (s : State) : MonitorsSound s.softRestart := by
  unfold State.softRestart
  split_ifs
  · exact startBlocks_monitorsSound _
  · exact (monitorsSound_of_not_running rfl).mpr fun x => by cases x <;> rfl

theorem writeSettings_monitorsSound (h : MonitorsSound s) (b : SettingsBody) : MonitorsSound (s.writeSettings b) := by
  have triggered : ∃ u, Works (s.storeSettings b) u ∧ u.monitors = s.monitors ∧
      (if s.changesTransit b then (s.storeSettings b).trigger else s.storeSettings b) = u :=
    ⟨_, .ite (.trigger _) (.refl _), by split_ifs; exacts [trigger_only _ .monitors (by decide), rfl], rfl⟩
  obtain ⟨u, works, monitors, eq⟩ := triggered
  unfold State.writeSettings
  dsimp only
  rw [eq]
  split_ifs with dim
  · refine works.monitorsSound monitors (monitorsSound_of_same h rfl rfl fun x => ?_)
    unfold State.rawLevel
    rw [dim]
    rfl
  · refine eachSide_formRaw_monitorsSound (fun x => monitors ▸ h.timed x) fun out => ?_
    exact monitors ▸ (monitorsSound_of_not_running (s := s) (works.running.symm.trans out)).mp h

theorem Served.monitorsSound {code : Byte} (served : Served code s t) (h : MonitorsSound s) : MonitorsSound t := by
  cases served with
  | same => exact h
  | add => exact monitorsSound_of_only (addCircuit_only s _) (by decide) h
  | edit => exact monitorsSound_of_only (editCircuit_only s _ _) (by decide) h
  | retire => exact monitorsSound_of_only (retireCircuit_only s _) (by decide) h
  | walk => exact h
  | delay => exact monitorsSound_of_only (setDelay_only s _ _) (by decide) h
  | operator =>
    unfold State.setOperator
    dsimp only
    split_ifs
    · exact h
    · exact (changeLocal_works s _ _).monitorsSound (changeLocal_only s _ _ .monitors (by decide)) h
  | release => exact (changeLocal_works s _ _).monitorsSound (changeLocal_only s _ _ .monitors (by decide)) h
  | settings => exact writeSettings_monitorsSound h _
  | freeze => exact monitorsSound_of_only (setFreezeFlag_only s _) (by decide) h
  | arm =>
    unfold State.armPart
    split_ifs
    · exact h
    · refine (Works.trigger _).monitorsSound (trigger_only _ .monitors (by decide)) ?_
      exact monitorsSound_of_only (gateFormed_only _ _) (by decide) (monitorsSound_of_same h rfl rfl fun _ => rfl)
  | restart => exact softRestart_monitorsSound s
  | clear => exact h

theorem not_running_of_load {load : LoadState} (h : s.loader.load = load) (ne : load ≠ .loaded) : s.running = false := by
  rw [State.running, h, beq_eq_false_iff_ne]
  exact ne

theorem releaseReset_load (h : s.loader.load = .noLoad) : s.releaseReset.loader.load = .loading := by
  have inReset : s.inReset = true := by simp [State.inReset, h]
  rw [State.releaseReset, if_pos inReset]
  rfl

theorem takeImageByte_load_ne (loading : s.loader.load = .loading) (value : Byte) :
    (s.takeImageByte value).loader.load ≠ .loaded := by
  rw [State.takeImageByte, if_neg (not_not.mpr loading)]
  dsimp only
  split_ifs
  · exact fun h => nomatch h
  · change s.loader.load ≠ .loaded
    rw [loading]
    decide

theorem Does.monitorsSound {c : Instr} (does : Does c s t) (h : MonitorsSound s) : MonitorsSound t := by
  have held_of_idle {t : State} (out : s.running = false) (monitors : t.monitors = s.monitors)
      (still : t.running = false) : MonitorsSound t :=
    (monitorsSound_of_not_running still).mpr (monitors ▸ (monitorsSound_of_not_running out).mp h)
  cases does with
  | idle => exact h
  | reset => exact (monitorsSound_of_not_running rfl).mpr fun x => by cases x <;> rfl
  | release held =>
    refine held_of_idle (not_running_of_load held (by decide)) (releaseReset_only s .monitors (by decide)) ?_
    exact not_running_of_load (releaseReset_load held) (by decide)
  | imageByte loading =>
    refine held_of_idle (not_running_of_load loading (by decide)) (takeImageByte_only s _ .monitors (by decide)) ?_
    rw [State.running, beq_eq_false_iff_ne]
    exact takeImageByte_load_ne loading _
  | loadFails busy =>
    refine held_of_idle ?_ rfl rfl
    obtain loading | checking := busy
    · exact not_running_of_load loading (by decide)
    · exact not_running_of_load checking (by decide)
  | loads => exact startBlocks_monitorsSound _
  | happens event => exact event.monitorsSound h
  | notReady => exact monitorsSound_of_only (notReadyWindow_only s _) (by decide) h
  | shows => exact h
  | corrupt => exact monitorsSound_of_same h rfl rfl fun _ => rfl
  | unknown => exact monitorsSound_of_same h rfl rfl fun _ => rfl
  | serves _ _ served => exact served.monitorsSound (monitorsSound_of_same (t := s.deliver _) h rfl rfl fun _ => rfl)

end Monitors

/-- Settles O54: of what a monitor reads, each input changes only where the monitor of its side forms its raw level again,
and a raw level formed again or an expiry leaves the timers that Table 14 names. -/
theorem monitorsStaySound : Obligations.MonitorsStaySound := by
  unfold Obligations.MonitorsStaySound
  exact fun s t h run => step_keeps (P := MonitorsSound) (fun _ _ h => h) Does.monitorsSound h run

end Sys2Proof.Machine
end

section
/-!
Proofs about the Switch Protocol Unit's step invariant (chapter 6). As stated it is refuted: nothing in its premises says that
the unit is held before LOADED, and there the event of an answer timer still closes the unit.
-/

namespace Sys2Proof.Machine

/-- A side whose span a record reports DARK from the local node, with an answer timer that has run out. -/
def strandedSide : SwitchSide :=
  { SwitchSide.held with
    answer := .running 0
    span := some { kind := .dark, reporters := [{ id := 0, kind := some .dark, state := none }], dark := true, served := true } }

/-- A part that is loading, with parts of a bridge episode standing in its Switch Protocol Unit and the expiry of the answer
timer waiting. -/
def stranded : State :=
  { State.reset with
    loader := { Loader.atReset with load := .loading }
    protocol := { sides := ⟨strandedSide, SwitchSide.held⟩, served := [{ span := 0, kind := .dark }], role := .idle }
    pending := [.answerTimerExpiry .east] }

/-- What the expiry leaves. -/
def strandedAfter : State := (stranded.setPending []).answerExpires .east

theorem step_stranded : step stranded = .next strandedAfter := rfl

theorem stranded_not_running : stranded.running = false := rfl

theorem strandedAfter_switched : (strandedAfter.protocol.sides.get .east).decided = .switched := by decide

/-- No record is held and no notice stands, so nothing causes the move. -/
theorem stranded_no_cause :
    ¬(reportsDark strandedAfter .east ∨ answerNoticeStands stranded .east ∨ answerNoticeStands strandedAfter .east) := by
  have records : strandedAfter.requests.reportOn (strandedAfter.geo.facing .east) = none := by decide
  have silent (link : Side) : (stranded.ports.get link).standing = none := by cases link <;> rfl
  have silentAfter (link : Side) : (strandedAfter.ports.get link).standing = none := by cases link <;> decide
  rintro (⟨kind, reporters, held, -⟩ | ⟨link, n, stands, -⟩ | ⟨link, n, stands, -⟩)
  · rw [records] at held
    cases held
  · rw [silent] at stands
    cases stands
  · rw [silentAfter] at stands
    cases stands

/-- Refutes O57: its premises leave the unit of a part that is not LOADED unspoken of, so a span copy with a DARK report may
stand there without the Request Unit's record; the expiry of the answer timer closes the unit and the side comes to be
SWITCHED without a cause. -/
theorem not_switchStaysUpToDate : ¬Obligations.SwitchStaysUpToDate := by
  unfold Obligations.SwitchStaysUpToDate
  intro h
  have idle : ¬stranded.running = true := by simp [stranded_not_running]
  have tables : TablesSound stranded := ⟨by decide, rfl⟩
  obtain ⟨-, moves⟩ := h stranded strandedAfter tables (fun running => absurd running idle) step_stranded
  obtain ⟨switches, -⟩ := moves (fun running => absurd running idle) (fun running => absurd running idle) .east
  exact stranded_no_cause (switches (by decide) strandedAfter_switched)

end Sys2Proof.Machine
end

section
/-!
Proofs about the geometry of the ring (chapter 1): distances on a ring, the routes from one position to another, and the
spans two routes share.
-/

namespace Sys2Proof.Machine

section Arcs

variable {r : Ring}

/-- The eastward distance of two positions of the ring, written out. -/
theorem Ring.dist_eq {a b : Nat} (ha : a < r.size) (hb : b < r.size) :
    r.dist a b = if a ≤ b then b - a else b + r.size - a := by
  unfold Ring.dist
  rw [Nat.mod_eq_of_lt ha]
  split_ifs with h
  · rw [show b + (r.size - a) = b - a + r.size by omega, Nat.add_mod_right]
    exact Nat.mod_eq_of_lt (by omega)
  · rw [Nat.mod_eq_of_lt (by omega)]
    omega

theorem Ring.dist_lt {a b : Nat} (ha : a < r.size) : r.dist a b < r.size := Nat.mod_lt _ (by omega)

theorem Ring.dist_self {a : Nat} (ha : a < r.size) : r.dist a a = 0 := by
  rw [Ring.dist_eq ha ha]
  simp

/-- Two arcs of the ring, each of at least one span, meet exactly where one starts inside the other. -/
theorem Ring.arcs_meet_iff {p q m n : Nat} (hp : p < r.size) (hq : q < r.size) (hm : 1 ≤ m) (hn : 1 ≤ n) :
    (r.dist p q < m ∨ r.dist q p < n) ↔ ∃ span < r.size, r.dist p span < m ∧ r.dist q span < n := by
  constructor
  · rintro (h | h)
    · exact ⟨q, hq, h, by rw [Ring.dist_self hq]; omega⟩
    · exact ⟨p, hp, by rw [Ring.dist_self hp]; omega, h⟩
  · rintro ⟨span, hs, first, second⟩
    rw [Ring.dist_eq hp hs] at first
    rw [Ring.dist_eq hq hs] at second
    rw [Ring.dist_eq hp hq, Ring.dist_eq hq hp]
    grind

/-- A route of the ring: it starts at a position and crosses at least one span and not all of them. -/
structure Route.within (t : Route) (r : Ring) : Prop where
  start : t.start < r.size
  some : 1 ≤ t.hops
  less : t.hops < r.size

theorem Ring.route_within {pa pb : Nat} (ha : pa < r.size) (hb : pb < r.size) (ne : pa ≠ pb) (d : Direction) :
    (r.route pa pb d).within r := by
  cases d with
  | east =>
    refine ⟨ha, ?_, Ring.dist_lt ha⟩
    change 1 ≤ r.dist pa pb
    rw [Ring.dist_eq ha hb]
    split_ifs <;> omega
  | west =>
    refine ⟨hb, ?_, Ring.dist_lt hb⟩
    change 1 ≤ r.dist pb pa
    rw [Ring.dist_eq hb ha]
    split_ifs <;> omega

/-- Two routes overlap exactly when some span is covered by both (R10). -/
theorem Ring.overlap_iff {t u : Route} (ht : t.within r) (hu : u.within r) :
    r.overlap t u = true ↔ ∃ span < r.size, r.covers t span = true ∧ r.covers u span = true := by
  unfold Ring.overlap Ring.covers
  simp only [Bool.or_eq_true, decide_eq_true_eq]
  exact Ring.arcs_meet_iff ht.start hu.start ht.some hu.some

theorem Ring.overlap_comm (t u : Route) : r.overlap t u = r.overlap u t := Bool.or_comm _ _

end Arcs

/-- Settles O35: the eastward route covers the spans nearer than its end, the westward one those from its end on, and two
arcs meet where one starts inside the other. -/
theorem routesCoverTheRing : Obligations.RoutesCoverTheRing := by
  unfold Obligations.RoutesCoverTheRing
  intro r _ pa pb ha hb ne
  refine ⟨fun span hs => ?_, ?_, (Ring.route_within ha hb ne .east).some, fun span _ => rfl, fun qa qb d e hqa hqb hq =>
    Ring.overlap_iff (Ring.route_within ha hb ne d) (Ring.route_within hqa hqb hq e)⟩
  · change decide (r.dist pa span < r.dist pa pb) = !decide (r.dist pb span < r.dist pb pa)
    rw [← decide_not, decide_eq_decide, Ring.dist_eq ha hs, Ring.dist_eq ha hb, Ring.dist_eq hb hs, Ring.dist_eq hb ha]
    grind
  · change r.dist pa pb + r.dist pb pa = r.size
    rw [Ring.dist_eq ha hb, Ring.dist_eq hb ha]
    grind

end Sys2Proof.Machine
end

section
/-!
Proofs about the load (chapter 11): the resets, the image bytes and read failures, and the five checks of an image.
-/

namespace Sys2Proof.Machine

/-! ### Resets (R185) -/

theorem releaseReset_of_held {s : State} (held : s.loader.load = .noLoad) :
    s.releaseReset = s.beginLoad.setMgmt { s.mgmt with requestSlot := none, answerSlot := none, rdy := true } :=
  if_pos (by simp [State.inReset, held])

theorem releaseReset_of_out {s : State} (out : s.loader.load ≠ .noLoad) : s.releaseReset = s :=
  if_neg (by simp [State.inReset, out])

/-- Settles O3: a reset puts the values of `State.reset` into every block but the input lines, the clock, the orders and the
queue; its release begins a load. -/
theorem resetsAndTheirRelease : Obligations.ResetsAndTheirRelease := by
  unfold Obligations.ResetsAndTheirRelease
  refine ⟨fun s => ?_, fun s => ⟨fun held => ?_, fun out => ?_⟩⟩
  · refine ⟨s.toReset, rfl, rfl, rfl, rfl, rfl, rfl, rfl, rfl, rfl, fun x => ?_, rfl, rfl, rfl, rfl, rfl, rfl, rfl, rfl, rfl,
      rfl, rfl, rfl, fun g => ?_, rfl, rfl, rfl, rfl⟩
    · cases x <;> exact ⟨rfl, rfl, rfl, rfl, rfl, rfl, rfl, rfl, rfl, rfl⟩
    · cases g <;> exact ⟨rfl, rfl, rfl⟩
  · refine ⟨s.releaseReset, rfl, releaseReset_only s, ?_⟩
    rw [releaseReset_of_held held]
    exact ⟨rfl, rfl, rfl, rfl, rfl, rfl, rfl, rfl⟩
  · exact congrArg _ (releaseReset_of_out out)

/-! ### Image bytes (R179) -/

section Bytes

variable {s : State}

theorem takeImageByte_of_last (loading : s.loader.load = .loading) (last : s.loader.image.length = 82) (v : Byte) :
    s.takeImageByte v = s.setLoader { s.loader with
      load := .checking, image := s.loader.image ++ [v], byteTimer := none,
      bus := s.loader.bus ++ [.noAcknowledge, .stop] } := by
  have full : imageLength ≤ (s.loader.image ++ [v]).length := by simp [imageLength, last]
  rw [State.takeImageByte, if_neg (not_not.mpr loading)]
  exact if_pos full

theorem takeImageByte_of_more (loading : s.loader.load = .loading) (more : s.loader.image.length < 82) (v : Byte) :
    s.takeImageByte v = s.setLoader { s.loader with
      image := s.loader.image ++ [v], byteTimer := some (s.after bytePeriods),
      bus := s.loader.bus ++ [.acknowledge] } := by
  have short : ¬imageLength ≤ (s.loader.image ++ [v]).length := by
    simp only [imageLength, List.length_append, List.length_singleton]
    omega
  rw [State.takeImageByte, if_neg (not_not.mpr loading)]
  exact if_neg short

theorem failRead_of_loading (loading : s.loader.load = .loading) :
    s.failRead = s.failLoad .readFailed s.loader.image.length := if_neg (not_not.mpr loading)

end Bytes

/-- Settles O4: an image byte before the last, the last one, and a read failure or a byte time-out, in and out of LOADING. -/
theorem imageBytesAndReadFailures : Obligations.ImageBytesAndReadFailures := by
  unfold Obligations.ImageBytesAndReadFailures
  refine ⟨fun s v => ⟨fun loading short => ?_, fun idle => ?_⟩, fun s c event => ⟨fun loading => ?_, fun idle => ?_⟩,
    fun s early => ?_⟩
  · refine ⟨s.takeImageByte v, rfl, takeImageByte_only s v, ?_⟩
    by_cases last : s.loader.image.length = 82
    · rw [takeImageByte_of_last loading last]
      simp only [last, if_true]
      exact ⟨rfl, rfl, rfl, rfl, rfl⟩
    · rw [takeImageByte_of_more loading (by omega)]
      simp only [last, if_false]
      exact ⟨rfl, rfl, loading, rfl, rfl⟩
  · exact congrArg _ (takeImageByte_of_not_loading idle v)
  · have run : exec c s = .next (s.failLoad .readFailed s.loader.image.length) := by
      obtain rfl | ⟨rfl, due⟩ := event
      · exact congrArg _ (failRead_of_loading loading)
      · exact congrArg _ ((if_pos ((timerDue_iff s _).mp due)).trans (failRead_of_loading loading))
    exact ⟨_, run, failLoad_only s _ _, rfl, rfl⟩
  · obtain rfl | ⟨rfl, -⟩ := event
    · exact congrArg _ (failRead_of_not_loading idle)
    · exact congrArg _ (byteTimesOut_of_not_loading idle)
  · exact congrArg _ (State.byteTimesOut_early (due_false_of_not early))

/-! ### The checks of an image (R180) -/

theorem firstRepeated_eq_none_iff {seen l : List Nat} :
    firstRepeated seen l = none ↔ l.Nodup ∧ ∀ id ∈ l, id ∉ seen := by
  induction l generalizing seen with
  | nil => simp [firstRepeated]
  | cons id rest ih =>
    unfold firstRepeated
    split_ifs with known
    · simp_all
    · rw [ih, List.nodup_cons]
      simp only [List.contains_iff_mem] at known
      grind

/-- The id found is the first that stands before itself. -/
theorem firstRepeated_eq_some_of {seen l : List Nat} {id j : Nat} (here : l[j]? = some id) (again : id ∈ seen ++ l.take j)
    (unique : (l.take j).Nodup) (new : ∀ id ∈ l.take j, id ∉ seen) : firstRepeated seen l = some id := by
  induction l generalizing seen j with
  | nil => simp at here
  | cons first rest ih =>
    unfold firstRepeated
    cases j with
    | zero => simp_all
    | succ j =>
      rw [List.take_succ_cons] at again unique new
      rw [List.nodup_cons] at unique
      rw [if_neg (by simpa using new first (by simp))]
      exact ih here (by simp only [List.mem_append, List.mem_cons] at *; tauto) unique.2 (by grind)

/-- An image passes exactly where its check word agrees, its size is in range, it names the self id once, and no id twice. -/
theorem imageFault_eq_none_iff (image : List Byte) :
    imageFault image = none ↔ imageWord image 81 = crc16 (image.take 81) ∧ 3 ≤ imageSize image ∧ imageSize image ≤ 24 ∧
      imageSelf image ∈ imageIds image ∧ (imageIds image).Nodup := by
  unfold imageFault
  dsimp only
  split_ifs with check size missing twice
  · simp [check]
  · refine iff_of_false (by simp) fun ⟨_, low, high, _⟩ => ?_
    omega
  · simp [List.count_eq_zero.mp missing]
  · refine iff_of_false (by simp) fun ⟨_, _, _, _, unique⟩ => ?_
    have once := List.nodup_iff_count_le_one.mp unique (imageSelf image)
    omega
  · have here : imageSelf image ∈ imageIds image := List.count_pos_iff.mp (by omega)
    rw [Option.map_eq_none_iff, firstRepeated_eq_none_iff]
    simp only [not_not] at check
    have low : 3 ≤ imageSize image := by omega
    have high : imageSize image ≤ 24 := by omega
    simp [check, here, low, high]

theorem checkImage_of_fault {s : State} (checking : s.loader.load = .checking) {kind : FaultKind} {detail : Nat}
    (fault : imageFault s.loader.image = some (kind, detail)) : s.checkImage = s.failLoad kind detail := by
  rw [State.checkImage, if_neg (not_not.mpr checking), fault]

theorem checkImage_of_pass {s : State} (checking : s.loader.load = .checking) (passed : imageFault s.loader.image = none) :
    s.checkImage = s.finishLoad := by
  rw [State.checkImage, if_neg (not_not.mpr checking), passed]

/-- Settles O5: the five checks are one chain of conditions, and the id found is the first that an earlier position holds. -/
theorem failingImageIsRefused : Obligations.FailingImageIsRefused := by
  unfold Obligations.FailingImageIsRefused
  intro s kind detail checking image at' n self ids told
  have fault : imageFault image = some (kind, detail) := by
    unfold imageFault
    change (if wordOf (at' 81) (at' 82) ≠ crc16 (image.take 81) then some (FaultKind.imageCheck, 0)
      else if n < 3 ∨ 24 < n then some (.size, n)
      else if ids.count self = 0 then some (.selfMissing, self)
      else if 2 ≤ ids.count self then some (.selfTwice, self)
      else (firstRepeated [] ids).map fun id => (.duplicateId, id)) = some (kind, detail)
    simp only [List.count_eq_zero]
    split_ifs at told ⊢
    · rw [told.1, told.2]
    · rw [told.1, told.2]
    · rw [told.1, told.2]
    · obtain ⟨rfl, j, here, again, unique⟩ := told
      rw [firstRepeated_eq_some_of here again unique (by simp)]
      rfl
    · rw [told.1, told.2]
  refine ⟨s.failLoad kind detail, congrArg _ (checkImage_of_fault checking fault), failLoad_only s kind detail, rfl, rfl⟩

/-! ### The ring of an image (R2, R3, R180) -/

section Image

variable {image : List Byte}

theorem imageIds_length (image : List Byte) : (imageIds image).length = imageSize image := by simp [imageIds]

theorem imageIds_getElem? {i : Nat} (hi : i < imageSize image) :
    (imageIds image)[i]? = some (idOfByte (imageByte image (3 + i))) := by
  simp [imageIds, hi]

/-- The position of the self id in the image. -/
def imageSelfAt (image : List Byte) : Nat := ((imageIds image).findIdx? (· == imageSelf image)).getD 0

theorem imageSelfAt_lt (present : imageSelf image ∈ imageIds image) : imageSelfAt image < imageSize image := by
  unfold imageSelfAt
  cases found : (imageIds image).findIdx? (· == imageSelf image) with
  | none =>
    have differs := List.findIdx?_eq_none_iff.mp found _ present
    simp at differs
  | some i =>
    obtain ⟨hi, -⟩ := List.findIdx?_eq_some_iff_getElem.mp found
    exact imageIds_length image ▸ hi

/-- With ids unique the self id stands at one position. -/
theorem imageSelfAt_eq (unique : (imageIds image).Nodup) {i : Nat} (here : (imageIds image)[i]? = some (imageSelf image)) :
    imageSelfAt image = i := by
  obtain ⟨hi, value⟩ := List.getElem?_eq_some_iff.mp here
  have found : (imageIds image).findIdx? (· == imageSelf image) = some i := by
    rw [List.findIdx?_eq_some_iff_getElem]
    refine ⟨hi, by simp [value], fun j hj => ?_⟩
    have ne : (imageIds image)[j] ≠ (imageIds image)[i] := fun h => by
      have := (unique.getElem_inj_iff).mp h
      omega
    simpa [value] using ne
  rw [imageSelfAt, found]
  rfl

theorem imageRing_size (image : List Byte) : (imageRing image).size = imageSize image := by
  simp [imageRing, Ring.size]

/-- The position that an image position moves to. -/
theorem rotate_back {n i i0 : Nat} (hi : i < n) (h0 : i0 < n) : ((i + n - i0) % n + i0) % n = i := by
  rw [Nat.mod_add_mod, show i + n - i0 + i0 = i + n by omega, Nat.add_mod_right, Nat.mod_eq_of_lt hi]

theorem imageRing_position {p : Nat} (hp : p < imageSize image) :
    (imageRing image).positions[p]? = (imageIds image)[(p + imageSelfAt image) % imageSize image]? := by
  have inside : (p + imageSelfAt image) % imageSize image < (imageIds image).length := by
    rw [imageIds_length]
    exact Nat.mod_lt _ (by omega)
  have position : (imageRing image).positions = (List.range (imageSize image)).map fun p =>
      (imageIds image).getD ((p + imageSelfAt image) % imageSize image) 0 := rfl
  rw [position, List.getElem?_map, List.getElem?_range hp, Option.map_some, List.getD_eq_getElem _ _ inside,
    List.getElem?_eq_getElem inside]

theorem imageRing_delay {p : Nat} (hp : p < imageSize image) :
    (imageRing image).delays[p]? =
      some (min (imageWord image (27 + 2 * ((p + imageSelfAt image) % imageSize image))) maxDelay) := by
  have delays : (imageRing image).delays = (List.range (imageSize image)).map fun p =>
      min (imageWord image (27 + 2 * ((p + imageSelfAt image) % imageSize image))) maxDelay := rfl
  rw [delays, List.getElem?_map, List.getElem?_range hp, Option.map_some]

theorem imageRing_positions_nodup (unique : (imageIds image).Nodup) : (imageRing image).positions.Nodup := by
  have positions : (imageRing image).positions = (List.range (imageSize image)).map fun p =>
      (imageIds image).getD ((p + imageSelfAt image) % imageSize image) 0 := rfl
  rw [positions]
  refine List.Nodup.map_on (fun p hp q hq same => ?_) List.nodup_range
  rw [List.mem_range] at hp hq
  have inside (k : Nat) : (k + imageSelfAt image) % imageSize image < (imageIds image).length := by
    rw [imageIds_length]
    exact Nat.mod_lt _ (by omega)
  rw [List.getD_eq_getElem _ _ (inside p), List.getD_eq_getElem _ _ (inside q)] at same
  have turned : p + imageSelfAt image ≡ q + imageSelfAt image [MOD imageSize image] := (unique.getElem_inj_iff).mp same
  exact (Nat.ModEq.add_right_cancel' _ turned).eq_of_lt_of_lt hp hq

/-- The ring of an image that passes is within the ranges of chapter 1. -/
theorem imageRing_sound (passed : imageFault image = none) : (imageRing image).sound := by
  obtain ⟨-, low, high, -, unique⟩ := (imageFault_eq_none_iff image).mp passed
  have ids : ∀ id ∈ (imageRing image).positions, id < 64 := by
    intro id mem
    obtain ⟨p, hp⟩ := List.mem_iff_getElem?.mp mem
    have inside : p < imageSize image := imageRing_size image ▸ (List.getElem?_eq_some_iff.mp hp).1
    rw [imageRing_position inside, imageIds_getElem? (Nat.mod_lt _ (by omega))] at hp
    exact Option.some.inj hp ▸ Nat.mod_lt _ (by decide)
  refine ⟨imageRing_size image ▸ low, imageRing_size image ▸ high, ?_, imageRing_positions_nodup unique, ids, ?_, ?_, ?_⟩
  · change (imageByte image 0).toNat / 16 < 16
    have := (imageByte image 0).isLt
    omega
  · simp [imageRing, Ring.size]
  · simp only [imageRing, List.mem_map]
    rintro d ⟨p, -, rfl⟩
    exact Nat.min_le_right _ _
  · exact Nat.min_le_right _ _

end Image

end Sys2Proof.Machine
end

section
/-!
Proofs about the start of the blocks that are held until LOADED: at a hold-off other than 0 each monitor forms its raw level and
starts its hold-off timers, and nothing is handed on.
-/

namespace Sys2Proof.Machine

section Start

variable {s : State}

/-- A monitor that has formed its first raw level at a hold-off other than 0 (R44, R45, R46). -/
def State.startedMonitor (s : State) (x : Side) : Monitor :=
  { raw := s.rawLevel x, declared := .clear, dimTimer := s.holdOffTimer,
    darkTimer := if s.rawLevel x = .dark then s.holdOffTimer else none, soakTimer := none }

theorem rawLevel_ne_clear_of_down {x : Side} (down : (s.ports.get x).link = .down) : s.rawLevel x ≠ .clear := by
  unfold State.rawLevel
  dsimp only
  split_ifs with _ low
  · decide
  · decide
  · exact absurd (.inr down) low

theorem monitorAfter_held {x : Side} (raw : s.rawLevel x ≠ .clear) (holdOff : s.settings.holdOff ≠ 0) :
    s.monitorAfter Monitor.held (s.rawLevel x) = s.startedMonitor x := by
  have low : ¬(s.rawLevel x).code < Level.clear.code := Nat.not_lt_zero _
  simp [State.monitorAfter, State.raisedAtOnce, holdOff, Monitor.held, State.dimTimerAfter, State.darkTimerAfter,
    State.soakTimerAfter, State.startedMonitor, raw, low]

/-- A held monitor that starts on a link that is DOWN, at a hold-off other than 0: nothing is declared. -/
theorem formRaw_of_held {x : Side} (running : s.running = true) (held : s.monitors.get x = Monitor.held)
    (down : (s.ports.get x).link = .down) (holdOff : s.settings.holdOff ≠ 0) :
    s.formRaw x = s.setMonitor x (s.startedMonitor x) := by
  have raw := rawLevel_ne_clear_of_down down
  have changed : ¬(!s.running || s.rawLevel x == (s.monitors.get x).raw) = true := by
    simp [running, held, Monitor.held, raw]
  rw [State.formRaw, if_neg changed, held, monitorAfter_held raw holdOff]
  exact if_pos (by rw [State.setMonitor, State.setMonitors_monitors, Pair.get_set_same]; rfl)

/-- The held blocks start at a hold-off other than 0: the order in which the monitors start makes no difference. -/
theorem startBlocks_of_holdOff (running : s.running = true) (holdOff : s.settings.holdOff ≠ 0) :
    s.startBlocks = s.freshBlocks.dropOrder.setMonitors (Pair.each s.freshBlocks.startedMonitor) := by
  have first {x : Side} : s.freshBlocks.dropOrder.formRaw x =
      s.freshBlocks.dropOrder.setMonitor x (s.freshBlocks.startedMonitor x) :=
    formRaw_of_held running (by cases x <;> rfl) (by cases x <;> rfl) holdOff
  have second {x y : Side} (ne : y ≠ x) (m : Monitor) : (s.freshBlocks.dropOrder.setMonitor x m).formRaw y =
      (s.freshBlocks.dropOrder.setMonitor x m).setMonitor y (s.freshBlocks.startedMonitor y) := by
    refine formRaw_of_held running ?_ (by cases y <;> rfl) holdOff
    rw [State.setMonitor, State.setMonitors_monitors, Pair.get_set, if_neg ne]
    cases y <;> rfl
  unfold State.startBlocks State.eachSide
  dsimp only
  split_ifs
  · rw [first, second (by decide)]
    rfl
  · rw [first, second (by decide)]
    rfl

end Start

/-- The part after an image has passed, before the held blocks start. -/
def State.imageTaken (s : State) : State :=
  ((s.setLoader { s.loader with load := .loaded, byteTimer := none }).setRing (some (imageRing s.loader.image))).setSettings
    (imageSettings s.loader.image)

theorem imageTaken_only (s : State) : onlyChanges [.loader, .ring, .settings] s s.imageTaken :=
  onlyChanges_chain (onlyChanges_chain (setLoader_only s _) (setRing_only _ _) (cs := [.loader, .ring, .settings])
    (by decide) (by decide)) (setSettings_only _ _) (by decide) (by decide)

theorem finishLoad_eq (s : State) : s.finishLoad = s.imageTaken.startBlocks := rfl

/-- At a hold-off other than 0 the start of the held blocks hands nothing to the Plan Engine. -/
theorem finishLoad_only_of_holdOff {s : State} (holdOff : s.imageTaken.settings.holdOff ≠ 0) :
    onlyChanges [.loader, .ring, .settings, .monitors, .ports, .requests, .protocol, .orders] s s.finishLoad := by
  rw [finishLoad_eq, startBlocks_of_holdOff rfl holdOff]
  refine onlyChanges_chain (bs := [.monitors, .ports, .requests, .protocol, .orders]) (imageTaken_only s) ?_ (by decide)
    (by decide)
  exact onlyChanges_chain (onlyChanges_chain (freshBlocks_only s.imageTaken) (dropOrder_only _)
    (cs := [.monitors, .ports, .requests, .protocol, .orders]) (by decide) (by decide)) (setMonitors_only _ _) (by decide)
    (by decide)

/-- Settles O6: the ring is the image's rotated to the self id, and the held blocks start as fresh blocks whose monitors have
formed their raw levels. -/
theorem passingImageLoads : Obligations.PassingImageLoads := by
  unfold Obligations.PassingImageLoads
  intro s checking image at' n self ids check low high present unique
  have passed : imageFault s.loader.image = none :=
    (imageFault_eq_none_iff _).mpr ⟨check, low, high, present, unique⟩
  have hold : s.imageTaken.settings.holdOff = min (at' 76).toNat 100 := Nat.zero_max _
  have ring : s.finishLoad.ring = some (imageRing image) := startBlocks_only s.imageTaken .ring (by decide)
  have settings : s.finishLoad.settings = imageSettings image := startBlocks_only s.imageTaken .settings (by decide)
  have holdOff_of (given : at' 76 ≠ 0) : s.imageTaken.settings.holdOff ≠ 0 := by
    have positive : (at' 76).toNat ≠ 0 := fun h => given (BitVec.eq_of_toNat_eq h)
    omega
  refine ⟨s.finishLoad, congrArg _ (checkImage_of_pass checking passed), ?_, ?_, ?_, ⟨_, ring, rfl, ?_, rfl, ?_, ?_, ?_⟩, ?_⟩
  · split_ifs with zero
    · exact onlyChanges_mono (finishLoad_only s) (by decide)
    · exact onlyChanges_mono (finishLoad_only_of_holdOff (holdOff_of zero)) (by decide)
  · exact startBlocks_only s.imageTaken .loader (by decide)
  · rw [settings]
    simp only [imageSettings, clampTo, Nat.zero_max]
    rfl
  · simp [imageRing, bitOf, imageByte]
    rfl
  · exact imageRing_size image
  · simp [imageRing]
    rfl
  · intro i0 here i hi
    have at0 : imageSelfAt image = i0 := imageSelfAt_eq unique here
    have inside : (i + n - i0) % n < n := Nat.mod_lt _ (by omega)
    have i0lt : i0 < n := by
      have := (List.getElem?_eq_some_iff.mp here).1
      simpa [ids] using this
    have back : ((i + n - i0) % n + imageSelfAt image) % imageSize image = i := by
      rw [at0]
      exact rotate_back hi i0lt
    rw [imageRing_position inside, imageRing_delay inside, back, imageWord, show 27 + 2 * i + 1 = 28 + 2 * i by omega]
    exact ⟨rfl, rfl⟩
  · intro given x
    have started := startBlocks_of_holdOff (s := s.imageTaken) rfl (holdOff_of given)
    rw [finishLoad_eq, started]
    have size : s.imageTaken.geo.size = n := imageRing_size image
    have records : s.imageTaken.freshRequests.records = List.replicate n SpanRecord.quiet := by
      rw [State.freshRequests, size]
    cases x <;> exact ⟨rfl, rfl, rfl, records, rfl, rfl, rfl, rfl, rfl, rfl, rfl⟩

end Sys2Proof.Machine
end

section
/-!
Proofs about the ring and the circuit table (chapters 1 and 2): positions of ids, the route of a record, the order of a chain,
and what the edits keep.
-/

namespace Sys2Proof.Machine

/-! ### Positions and routes (R8, R9) -/

section Positions

variable {r : Ring}

theorem Ring.positionOf_lt {id p : Nat} (h : r.positionOf id = some p) : p < r.size :=
  (List.findIdx?_eq_some_iff_getElem.mp h).1

theorem Ring.idAt_positionOf {id p : Nat} (h : r.positionOf id = some p) : r.idAt p = id := by
  obtain ⟨hp, value, -⟩ := List.findIdx?_eq_some_iff_getElem.mp h
  rw [Ring.idAt, List.getD_eq_getElem _ _ hp]
  simpa using value

theorem Ring.positionOf_idAt (sound : r.sound) {p : Nat} (hp : p < r.size) : r.positionOf (r.idAt p) = some p := by
  cases found : r.positionOf (r.idAt p) with
  | none =>
    have differs := List.findIdx?_eq_none_iff.mp found (r.idAt p) (by
      rw [Ring.idAt, List.getD_eq_getElem _ _ hp]
      exact List.getElem_mem hp)
    simp at differs
  | some q => rw [Ring.idAt_inj sound (Ring.positionOf_lt found) hp (Ring.idAt_positionOf found)]

theorem Ring.positionOf_eq_some_iff (sound : r.sound) {id p : Nat} :
    r.positionOf id = some p ↔ p < r.size ∧ r.idAt p = id :=
  ⟨fun h => ⟨Ring.positionOf_lt h, Ring.idAt_positionOf h⟩, fun ⟨hp, h⟩ => h ▸ Ring.positionOf_idAt sound hp⟩

/-- The ends of a record stand at two different positions. -/
theorem Circuit.sound.ends {c : Circuit} (h : c.sound r) :
    ∃ pa pb, r.positionOf c.source = some pa ∧ r.positionOf c.destination = some pb ∧ pa < r.size ∧ pb < r.size ∧
      pa ≠ pb ∧ r.circuitRoute c = r.route pa pb c.direction := by
  obtain ⟨-, -, source, destination, differ, -⟩ := h
  obtain ⟨pa, ha⟩ := Option.isSome_iff_exists.mp source
  obtain ⟨pb, hb⟩ := Option.isSome_iff_exists.mp destination
  refine ⟨pa, pb, ha, hb, Ring.positionOf_lt ha, Ring.positionOf_lt hb, fun same => differ ?_, ?_⟩
  · rw [← Ring.idAt_positionOf ha, same, Ring.idAt_positionOf hb]
  · rw [Ring.circuitRoute, ha, hb]
    rfl

theorem Circuit.sound.within {c : Circuit} (h : c.sound r) : (r.circuitRoute c).within r := by
  obtain ⟨pa, pb, -, -, ha, hb, ne, route⟩ := h.ends
  rw [route]
  exact Ring.route_within ha hb ne _

end Positions

/-! ### The order of a chain (R23) -/

section Chains

variable {r : Ring}

theorem Ring.chainBefore_iff (a b : Circuit) :
    r.chainBefore a b = true ↔ a.channel < b.channel ∨ a.channel = b.channel ∧ r.startSpan a < r.startSpan b := by
  simp [Ring.chainBefore]

theorem Ring.chainBefore_trans {a b c : Circuit} (first : r.chainBefore a b = true) (second : r.chainBefore b c = true) :
    r.chainBefore a c = true := by
  rw [Ring.chainBefore_iff] at *
  omega

/-- Routes that start at one span overlap there, so records that do not clash are ordered (R23, R27). -/
theorem Ring.chainBefore_total {c d : Circuit} (hc : c.sound r) (hd : d.sound r)
    (apart : d.channel = c.channel → r.overlap (r.circuitRoute d) (r.circuitRoute c) = false) :
    r.chainBefore d c = true ∨ r.chainBefore c d = true := by
  rw [Ring.chainBefore_iff, Ring.chainBefore_iff]
  by_contra unordered
  have channel : d.channel = c.channel := by omega
  have start : r.startSpan d = r.startSpan c := by omega
  have meet : r.overlap (r.circuitRoute d) (r.circuitRoute c) = true := by
    have same : (r.circuitRoute d).start = (r.circuitRoute c).start := start
    rw [Ring.overlap, same, Ring.dist_self hc.within.start]
    simpa using .inl hd.within.some
  rw [apart channel] at meet
  cases meet

/-- A record goes into an ordered table where all before it come before it, and all after it after it (R23). -/
theorem Ring.insertCircuit_split {c : Circuit} {l : List Circuit} (ordered : l.Pairwise fun a b => r.chainBefore a b = true)
    (total : ∀ d ∈ l, r.chainBefore d c = true ∨ r.chainBefore c d = true) :
    ∃ before after, l = before ++ after ∧ r.insertCircuit c l = before ++ c :: after ∧
      (∀ d ∈ before, r.chainBefore d c = true) ∧ ∀ d ∈ after, r.chainBefore c d = true := by
  induction l with
  | nil => exact ⟨[], [], rfl, rfl, by simp, by simp⟩
  | cons d rest ih =>
    obtain ⟨first, ordered⟩ := List.pairwise_cons.mp ordered
    by_cases earlier : r.chainBefore d c = true
    · obtain ⟨before, after, whole, inserted, low, high⟩ := ih ordered fun e mem => total e (List.mem_cons_of_mem _ mem)
      refine ⟨d :: before, after, by rw [whole]; rfl, ?_, ?_, high⟩
      · rw [Ring.insertCircuit, if_pos earlier, inserted]
        rfl
      · exact List.forall_mem_cons.mpr ⟨earlier, low⟩
    · have later : r.chainBefore c d = true := (total d List.mem_cons_self).resolve_left earlier
      refine ⟨[], d :: rest, rfl, by rw [Ring.insertCircuit, if_neg earlier]; rfl, by simp, ?_⟩
      exact List.forall_mem_cons.mpr ⟨later, fun e mem => Ring.chainBefore_trans later (first e mem)⟩

end Chains

/-! ### What the edits keep (R22 to R25) -/

section Edits

variable {r : Ring} {circuits : List Circuit}

theorem tableSound_nil (r : Ring) : tableSound r [] := ⟨by simp, by simp, by simp, .nil, .nil⟩

theorem tableSound_insert (h : tableSound r circuits) {c : Circuit} (sound : c.sound r) (room : circuits.length < 2048)
    (new : ∀ d ∈ circuits, d.id ≠ c.id)
    (apart : ∀ d ∈ circuits, d.channel = c.channel → r.overlap (r.circuitRoute d) (r.circuitRoute c) = false) :
    tableSound r (r.insertCircuit c circuits) := by
  obtain ⟨-, records, unique, ordered, disjoint⟩ := h
  obtain ⟨before, after, rfl, inserted, low, high⟩ := Ring.insertCircuit_split ordered fun d mem =>
    Ring.chainBefore_total sound (records d mem) (apart d mem)
  rw [inserted]
  refine ⟨?_, ?_, ?_, ?_, ?_⟩
  · simp only [List.length_append, List.length_cons] at *
    omega
  · intro d mem
    obtain mem | rfl | mem : d ∈ before ∨ d = c ∨ d ∈ after := by simpa using mem
    · exact records d (List.mem_append_left _ mem)
    · exact sound
    · exact records d (List.mem_append_right _ mem)
  · rw [List.map_append, List.map_cons, List.nodup_middle, ← List.map_append, List.nodup_cons]
    exact ⟨fun mem => by obtain ⟨d, hd, same⟩ := List.mem_map.mp mem; exact new d hd same, unique⟩
  · obtain ⟨first, second, across⟩ := List.pairwise_append.mp ordered
    refine List.pairwise_append.mpr ⟨first, List.pairwise_cons.mpr ⟨high, second⟩, fun d hd e he => ?_⟩
    obtain rfl | he := List.mem_cons.mp he
    · exact low d hd
    · exact across d hd e he
  · have symmetric {a b : Circuit}
        (h : a.channel = b.channel → r.overlap (r.circuitRoute a) (r.circuitRoute b) = false) (same : b.channel = a.channel) :
        r.overlap (r.circuitRoute b) (r.circuitRoute a) = false := Ring.overlap_comm (r := r) _ _ ▸ h same.symm
    rw [List.pairwise_middle symmetric, List.pairwise_cons]
    exact ⟨fun d mem => symmetric (apart d mem), disjoint⟩

theorem tableSound_sublist (h : tableSound r circuits) {l : List Circuit} (sub : l.Sublist circuits) : tableSound r l := by
  obtain ⟨room, records, unique, ordered, disjoint⟩ := h
  exact ⟨sub.length_le.trans room, fun c mem => records c (sub.subset mem), unique.sublist (sub.map _), ordered.sublist sub,
    disjoint.sublist sub⟩

/-- Two records with the same id, channel and route. -/
structure Circuit.sameRoute (c d : Circuit) : Prop where
  id : c.id = d.id
  channel : c.channel = d.channel
  source : c.source = d.source
  destination : c.destination = d.destination
  direction : c.direction = d.direction

theorem Circuit.sameRoute.route {c d : Circuit} (h : c.sameRoute d) : r.circuitRoute c = r.circuitRoute d := by
  rw [Ring.circuitRoute, Ring.circuitRoute, h.source, h.destination, h.direction]

theorem tableSound_map (h : tableSound r circuits) {f : Circuit → Circuit} (same : ∀ c ∈ circuits, (f c).sameRoute c)
    (sound : ∀ c ∈ circuits, (f c).sound r) : tableSound r (circuits.map f) := by
  obtain ⟨room, records, unique, ordered, disjoint⟩ := h
  refine ⟨by simpa using room, by simpa using sound, ?_, ?_, ?_⟩
  · have ids : (circuits.map f).map (·.id) = circuits.map (·.id) := by
      rw [List.map_map]
      exact List.map_congr_left fun c mem => (same c mem).id
    rw [ids]
    exact unique
  · refine List.pairwise_map.mpr (ordered.imp_of_mem fun {c d} hc hd before => ?_)
    rw [Ring.chainBefore_iff, Ring.startSpan, Ring.startSpan] at *
    rw [(same c hc).channel, (same d hd).channel, (same c hc).route, (same d hd).route]
    exact before
  · refine List.pairwise_map.mpr (disjoint.imp_of_mem fun {c d} hc hd apart => ?_)
    rw [(same c hc).channel, (same d hd).channel, (same c hc).route, (same d hd).route]
    exact apart

theorem storedLabel_length {label bytes : List Byte} (h : storedLabel label = some bytes) :
    1 ≤ bytes.length ∧ bytes.length ≤ 16 := by
  unfold storedLabel at h
  split_ifs at h with empty
  obtain rfl := Option.some.inj h
  have some : label.length ≠ 0 := fun zero => empty (by simpa using zero)
  rw [List.length_take]
  omega

/-- The record an ADD asks for, where it passes step 1 (R16 to R19, R27). -/
theorem Ring.sound_of_checkAdd {a : AddBody} {c : Circuit} (bounded : a.ceiling ≤ 65535) (h : r.checkAdd a = .ok c) :
    c.sound r := by
  unfold Ring.checkAdd at h
  split_ifs at h with id channel ends differ
  split at h
  next direction cls policy _ _ _ =>
    split_ifs at h with agrees
    obtain rfl := Except.ok.inj h
    push Not at ends
    obtain ⟨-, -, source, destination⟩ := ends
    exact ⟨by simpa using id, by simpa using channel, Option.isSome_iff_ne_none.mpr source,
      Option.isSome_iff_ne_none.mpr destination, differ, (CircuitClass.agrees_iff _ _).mp agrees, bounded,
      fun _ => storedLabel_length⟩
  next => cases h

theorem Circuit.edited_sameRoute (c : Circuit) (e : EditBody) (cls : CircuitClass) (policy : LatePolicy) :
    (c.edited e cls policy).sameRoute c := ⟨rfl, rfl, rfl, rfl, rfl⟩

theorem Circuit.edited_sound {c : Circuit} (h : c.sound r) {e : EditBody} {cls : CircuitClass} {policy : LatePolicy}
    (bounded : e.ceiling ≤ 65535) (agrees : c.cls.changesExtra (c.edited e cls policy).cls = false) :
    (c.edited e cls policy).sound r := by
  obtain ⟨id, channel, source, destination, differ, extra, ceiling, label⟩ := h
  refine ⟨id, channel, source, destination, differ, ?_, ?_, ?_⟩
  · have same : c.cls = .extra ↔ (c.edited e cls policy).cls = .extra := by
      simpa [CircuitClass.changesExtra, Bool.beq_eq_decide_eq] using agrees
    exact same.symm.trans extra
  · change (if e.givesCeiling then e.ceiling else c.ceiling) ≤ 65535
    split_ifs
    · exact bounded
    · exact ceiling
  · change ∀ bytes, (if e.givesLabel then storedLabel e.label else c.label) = some bytes → _
    split_ifs
    · exact fun _ => storedLabel_length
    · exact label

end Edits

/-! ### The invariant -/

section Tables

variable {s t : State}

theorem TablesSound.of_ring (h : TablesSound s) {r : Ring} (ring : s.ring = some r) :
    s.loader.load = .loaded ∧ r.sound ∧ tableSound r s.table.circuits ∧ ∀ k ∈ s.table.cursor, k.sound := by
  unfold TablesSound at h
  rw [ring] at h
  exact h

theorem tablesSound_of_ring {r : Ring} (ring : s.ring = some r) (loaded : s.loader.load = .loaded) (sound : r.sound)
    (circuits : tableSound r s.table.circuits) (cursor : ∀ k ∈ s.table.cursor, k.sound) : TablesSound s := by
  unfold TablesSound
  rw [ring]
  exact ⟨loaded, sound, circuits, cursor⟩

theorem TablesSound.ring_of_running (h : TablesSound s) (running : s.running = true) :
    s.ring = some s.geo ∧ s.geo.sound ∧ tableSound s.geo s.table.circuits ∧ ∀ k ∈ s.table.cursor, k.sound := by
  have loaded : s.loader.load = .loaded := by simpa [State.running] using running
  cases ring : s.ring with
  | none =>
    unfold TablesSound at h
    rw [ring] at h
    exact absurd loaded h.1
  | some r =>
    rw [State.geo_of_ring ring]
    exact ⟨rfl, (h.of_ring ring).2⟩

theorem TablesSound.none_of_not_loaded (h : TablesSound s) (out : s.loader.load ≠ .loaded) :
    s.ring = none ∧ s.table = CircuitTable.empty := by
  cases ring : s.ring with
  | none =>
    unfold TablesSound at h
    rw [ring] at h
    exact ⟨rfl, h.2⟩
  | some r => exact absurd (h.of_ring ring).1 out

theorem tablesSound_of_empty (ring : s.ring = none) (out : s.loader.load ≠ .loaded) (table : s.table = CircuitTable.empty) :
    TablesSound s := by
  unfold TablesSound
  rw [ring]
  exact ⟨out, table⟩

theorem tablesSound_of_same (h : TablesSound s) (load : t.loader.load = s.loader.load) (ring : t.ring = s.ring)
    (table : t.table = s.table) : TablesSound t := by
  unfold TablesSound
  rw [load, ring, table]
  exact h

theorem tablesSound_of_only {bs : List Block} (only : onlyChanges bs s t) (apart : ∀ b ∈ bs, b ∉ [Block.loader, .ring, .table])
    (h : TablesSound s) : TablesSound t := by
  have kept (b : Block) (held : b ∈ [Block.loader, .ring, .table]) : sameBlock s t b :=
    only b fun touched => apart b touched held
  have loader : t.loader = s.loader := kept .loader (by decide)
  exact tablesSound_of_same h (by rw [loader]) (kept .ring (by decide)) (kept .table (by decide))

/-- An edit leaves the part LOADED and its ring; the table it stores is sound. -/
theorem TablesSound.store (h : TablesSound s) (running : s.running = true) {table : CircuitTable}
    (circuits : tableSound s.geo table.circuits) (cursor : ∀ k ∈ table.cursor, k.sound) : TablesSound (s.setTable table) :=
  tablesSound_of_ring (h.ring_of_running running).1 (by simpa [State.running] using running) (h.ring_of_running running).2.1
    circuits cursor

theorem disturb_sound {cursor : Option Cursor} (h : ∀ k ∈ cursor, k.sound) (channel : Nat) :
    ∀ k ∈ disturb cursor channel, k.sound := by
  cases cursor with
  | none => exact fun _ mem => nomatch mem
  | some k =>
    intro l mem
    obtain rfl : _ = l := Option.some.inj mem
    have sound := h k rfl
    dsimp only
    split_ifs
    · exact sound
    · exact sound

/-- A change of the delays or of the transit delay within their ranges. -/
theorem TablesSound.storeRing (h : TablesSound s) {f : Ring → Ring} (positions : ∀ r, (f r).positions = r.positions)
    (sound : ∀ r : Ring, r.sound → (f r).sound) : TablesSound (s.setRing (s.ring.map f)) := by
  cases ring : s.ring with
  | none => exact tablesSound_of_same h rfl (by rw [ring]; rfl) rfl
  | some r =>
    obtain ⟨loaded, whole, circuits, cursor⟩ := h.of_ring ring
    have size : (f r).size = r.size := congrArg List.length (positions r)
    have position : (f r).positionOf = r.positionOf := by
      funext id
      rw [Ring.positionOf, positions]
      rfl
    have dist : (f r).dist = r.dist := by
      funext a b
      rw [Ring.dist, size]
      rfl
    have route : (f r).circuitRoute = r.circuitRoute := by
      funext c
      unfold Ring.circuitRoute Ring.route
      rw [position, dist]
    refine tablesSound_of_ring rfl loaded (sound r whole) ?_ cursor
    obtain ⟨room, records, unique, ordered, disjoint⟩ := circuits
    refine ⟨room, fun c mem => ?_, unique, ?_, ?_⟩
    · unfold Circuit.sound
      rw [position]
      exact records c mem
    · unfold Ring.chainBefore Ring.startSpan
      rw [route]
      exact ordered
    · unfold Ring.overlap
      rw [route, dist]
      exact disjoint

theorem Ring.withDelay_sound {r : Ring} (h : r.sound) (span delay : Nat) : (r.withDelay span delay).sound := by
  obtain ⟨low, high, tag, unique, ids, length, bounded, transit⟩ := h
  refine ⟨low, high, tag, unique, ids, by rw [Ring.withDelay, List.length_set]; exact length, fun d mem => ?_, transit⟩
  obtain mem | rfl := List.mem_or_eq_of_mem_set mem
  · exact bounded d mem
  · exact Nat.min_le_right _ _

theorem Ring.givenTransit_sound {r : Ring} (h : r.sound) (b : SettingsBody) :
    Ring.sound { r with transit := r.givenTransit b } := by
  obtain ⟨low, high, tag, unique, ids, length, bounded, transit⟩ := h
  refine ⟨low, high, tag, unique, ids, length, bounded, ?_⟩
  change r.givenTransit b ≤ 15
  unfold Ring.givenTransit clampTo
  split_ifs
  · omega
  · exact transit

theorem walkFrom_tablesSound (h : TablesSound s) (running : s.running = true) {k : Cursor} (window : k.sound) :
    TablesSound (s.walkFrom k).1 := by
  obtain ⟨-, -, circuits, -⟩ := h.ring_of_running running
  refine h.store running circuits fun l mem => ?_
  obtain rfl := Option.some.inj mem
  exact window

theorem Works.tablesSound (works : Works s t) (h : TablesSound s) : TablesSound t :=
  tablesSound_of_only works.only (by decide) h

/-- A RESTART keeps the records and drops the cursor (R41). -/
theorem softRestart_table (s : State) : s.softRestart.table = { s.table with cursor := none } := by
  unfold State.softRestart
  split_ifs
  · exact startBlocks_only _ .table (by decide)
  · rfl

theorem softRestart_tablesSound (h : TablesSound s) : TablesSound s.softRestart := by
  have ring : s.softRestart.ring = s.ring := softRestart_only s .ring (by decide)
  by_cases running : s.running = true
  · obtain ⟨held, whole, circuits, -⟩ := h.ring_of_running running
    refine tablesSound_of_ring (ring.trans held) ?_ whole ?_ ?_
    · rw [softRestart_loader_of_running running]
      simpa [State.running] using running
    · rw [softRestart_table]
      exact circuits
    · rw [softRestart_table]
      exact fun _ mem => nomatch mem
  · obtain ⟨none, empty⟩ := h.none_of_not_loaded (by simpa [State.running] using running)
    refine tablesSound_of_empty (ring.trans none) ?_ ?_
    · rw [softRestart_loader_of_not_running running]
      exact fun h => nomatch h
    · rw [softRestart_table, empty]
      rfl

theorem Served.tablesSound {code : Byte} (served : Served code s t) (h : TablesSound s) : TablesSound t := by
  cases served with
  | same => exact h
  | add running bounded checked new clear room =>
    obtain ⟨ring, whole, circuits, cursor⟩ := h.ring_of_running running
    have apart := (Ring.clashing_eq_none_iff _ _ _).mp clear
    refine tablesSound_of_only (trigger_only _) (by decide) (h.store running ?_ (disturb_sound cursor _))
    refine tableSound_insert circuits (Ring.sound_of_checkAdd bounded checked) room (fun d mem same => ?_) fun d mem same => ?_
    · exact (CircuitTable.find_eq_none_iff _ _).mp new ⟨d, mem, same⟩
    · simpa using fun overlap => apart ⟨d, mem, same, overlap⟩
  | @edit e c cls policy running bounded found agrees =>
    obtain ⟨ring, whole, circuits, cursor⟩ := h.ring_of_running running
    have mem : c ∈ s.table.circuits := List.mem_of_find?_eq_some found
    have only (d : Circuit) (hd : d ∈ s.table.circuits) (same : d.id = c.id) : d = c :=
      List.inj_on_of_nodup_map h.ids_nodup hd mem same
    have stored : TablesSound (s.setTable (s.table.replace (c.edited e cls policy))) := by
      refine h.store running (tableSound_map circuits (fun d hd => ?_) fun d hd => ?_) cursor
      · split_ifs with same
        · exact only d hd same ▸ c.edited_sameRoute e cls policy
        · exact ⟨rfl, rfl, rfl, rfl, rfl⟩
      · split_ifs
        · exact Circuit.edited_sound (circuits.2.1 c mem) bounded agrees
        · exact circuits.2.1 d hd
    unfold State.editCircuit
    dsimp only
    split_ifs
    · exact tablesSound_of_only (trigger_only _) (by decide) stored
    · exact stored
  | retire running =>
    obtain ⟨ring, whole, circuits, cursor⟩ := h.ring_of_running running
    exact tablesSound_of_only (trigger_only _) (by decide)
      (h.store running (tableSound_sublist circuits List.filter_sublist) (disturb_sound cursor _))
  | @walk k running window =>
    refine walkFrom_tablesSound h running ?_
    obtain held | sound := window
    · exact (h.ring_of_running running).2.2.2 k held
    · exact sound
  | @delay span delay =>
    have stored := h.storeRing (f := fun r => r.withDelay span delay) (fun _ => rfl) fun r sound => Ring.withDelay_sound sound _ _
    unfold State.setDelay
    dsimp only
    split_ifs
    · exact stored
    · exact tablesSound_of_only (trigger_only _) (by decide) stored
  | operator => exact tablesSound_of_only (setOperator_only s _ _) (by decide) h
  | release => exact tablesSound_of_only (changeLocal_only s _ _) (by decide) h
  | @settings b =>
    refine (writeSettings_works s b).tablesSound ?_
    exact tablesSound_of_only (setAttention_only _ _) (by decide)
        ((tablesSound_of_only (setSettings_only s _) (by decide) h).storeRing
          (f := fun r => { r with transit := r.givenTransit b }) (fun _ => rfl) fun r sound => Ring.givenTransit_sound sound b)
  | freeze => exact tablesSound_of_only (setFreezeFlag_only s _) (by decide) h
  | arm =>
    have only := armPart_only s
    exact tablesSound_of_same h (by rw [armPart_loader]) (only .ring (by decide)) (only .table (by decide))
  | restart => exact softRestart_tablesSound h
  | clear => exact h

theorem Does.tablesSound {c : Instr} (does : Does c s t) (h : TablesSound s) : TablesSound t := by
  have unloaded {t : State} (out : s.loader.load ≠ .loaded) (ring : t.ring = s.ring) (table : t.table = s.table)
      (still : t.loader.load ≠ .loaded) : TablesSound t :=
    tablesSound_of_empty (ring.trans (h.none_of_not_loaded out).1) still (table.trans (h.none_of_not_loaded out).2)
  cases does with
  | idle => exact h
  | reset => exact tablesSound_of_empty rfl (fun h => nomatch h) rfl
  | release held =>
    have only := releaseReset_only s
    refine unloaded (by simp [held]) (only .ring (by decide)) (only .table (by decide)) ?_
    rw [releaseReset_load held]
    decide
  | @imageByte value loading =>
    have only := takeImageByte_only s value
    refine unloaded (by simp [loading]) (only .ring (by decide)) (only .table (by decide)) ?_
    exact takeImageByte_load_ne loading value
  | loadFails busy =>
    refine unloaded ?_ rfl rfl (fun h => nomatch h)
    obtain loading | checking := busy
    · simp [loading]
    · simp [checking]
  | loads checking passed =>
    obtain ⟨-, empty⟩ := h.none_of_not_loaded (by simp [checking])
    refine (startBlocks_works _).tablesSound (tablesSound_of_ring rfl rfl (imageRing_sound passed) ?_ ?_)
    · change tableSound (imageRing s.loader.image) s.table.circuits
      rw [empty]
      exact tableSound_nil _
    · change ∀ k ∈ s.table.cursor, k.sound
      rw [empty]
      exact fun _ mem => nomatch mem
  | happens event => exact tablesSound_of_only event.only (by decide) h
  | notReady => exact tablesSound_of_only (notReadyWindow_only s _) (by decide) h
  | shows => exact h
  | corrupt => exact h
  | unknown => exact h
  | serves _ _ served => exact served.tablesSound (s := s.deliver _) h

end Tables

/-- Settles O55: the ring comes and goes with the load, an ADD goes into its chain in order and without an overlap, and the
other edits keep each record's route. -/
theorem tablesStaySound : Obligations.TablesStaySound := by
  unfold Obligations.TablesStaySound
  exact fun s t h run => step_keeps (P := TablesSound) (fun _ _ h => h) Does.tablesSound h run

end Sys2Proof.Machine
end

section
/-!
Proofs about the derivation of the Request Unit (sections 5.2 to 5.5): what its passes drop, that five of them settle, and the
invariant of the unit.
-/

namespace Sys2Proof.Machine

/-! ### What a derivation drops (R74, R80) -/

/-- What the passes of a derivation may make of the parts of side x: a SETTLE or an ASK dropped, with the echo hold started
afresh (R74, R80, R84). -/
structure Hearing.Drops (h : Hearing) (x : Side) (l q : LocalRequest) : Prop where
  line : q.line = l.line ∧ q.settleTimer = l.settleTimer ∨ l.line = .settle ∧ q.line = .none ∧ q.settleTimer = none
  operator : q.operator = l.operator ∨ l.operator = .ask ∧ q.operator = .none
  echo : q = l ∨ q.echo = h.startEcho x ∧ (q.line ≠ l.line ∨ q.operator ≠ l.operator)

section Drops

variable {h : Hearing} {x : Side} {l q p : LocalRequest}

theorem Hearing.Drops.refl (h : Hearing) (x : Side) (l : LocalRequest) : h.Drops x l l :=
  ⟨.inl ⟨rfl, rfl⟩, .inl rfl, .inl rfl⟩

theorem Hearing.Drops.trans (first : h.Drops x l q) (second : h.Drops x q p) : h.Drops x l p := by
  obtain ⟨line, operator, echo⟩ := first
  obtain ⟨line', operator', echo'⟩ := second
  refine ⟨?_, ?_, ?_⟩
  · grind
  · grind
  · obtain rfl | ⟨started, fell⟩ := echo'
    · exact echo
    · refine .inr ⟨started, ?_⟩
      grind

theorem Hearing.afterDrops_drops (h : Hearing) (x : Side) (l : LocalRequest) (served : Bool) :
    h.Drops x l (h.afterDrops x l served) := by
  have settle : l.losesSettle served = true → l.line = .settle := fun loses => by
    simp only [LocalRequest.losesSettle, Bool.and_eq_true, beq_iff_eq] at loses
    exact loses.1
  have ask : l.losesAsk served = true → l.operator = .ask := fun loses => by
    simp only [LocalRequest.losesAsk, Bool.and_eq_true, beq_iff_eq] at loses
    exact loses.1
  by_cases drops : l.drops served = true
  · rw [Hearing.afterDrops, if_pos drops]
    refine ⟨?_, ?_, .inr ⟨rfl, ?_⟩⟩
    · grind
    · grind
    · simp only [LocalRequest.drops, Bool.or_eq_true] at drops
      grind
  · rw [Hearing.afterDrops, if_neg drops]
    exact .refl h x l

/-- A line part and an operator part that no pass drops. -/
theorem Hearing.Drops.eq_of_firm (drops : h.Drops x l q) (line : l.line ≠ .settle) (operator : l.operator ≠ .ask) : q = l := by
  obtain rfl | ⟨-, fell⟩ := drops.echo
  · rfl
  · obtain ⟨same, -⟩ := drops.line.resolve_right fun settle => line settle.1
    have same' := drops.operator.resolve_right fun ask => operator ask.1
    exact (fell.elim (· same) (· same')).elim

end Drops

/-! ### The passes settle (R85) -/

/-- How many parts a pass may drop yet. -/
def LocalRequest.weight (l : LocalRequest) : Nat :=
  (if l.line = .settle then 1 else 0) + if l.operator = .ask then 1 else 0

section Passes

variable {h : Hearing} {sides : Pair LocalRequest}

theorem Hearing.afterDrops_of_firm {x : Side} {l : LocalRequest} {served : Bool} (firm : l.drops served = false) :
    h.afterDrops x l served = l := if_neg (by simp [firm])

theorem Hearing.afterDrops_weight_lt (h : Hearing) (x : Side) {l : LocalRequest} {served : Bool}
    (drops : l.drops served = true) : (h.afterDrops x l served).weight < l.weight := by
  have parts := drops
  simp only [LocalRequest.drops, Bool.or_eq_true, LocalRequest.losesSettle, LocalRequest.losesAsk, Bool.and_eq_true,
    beq_iff_eq] at parts
  rw [Hearing.afterDrops, if_pos drops]
  unfold LocalRequest.weight LocalRequest.losesSettle LocalRequest.losesAsk
  grind

theorem Hearing.afterDrops_weight_le (h : Hearing) (x : Side) (l : LocalRequest) (served : Bool) :
    (h.afterDrops x l served).weight ≤ l.weight := by
  cases drops : l.drops served with
  | true => exact (h.afterDrops_weight_lt x drops).le
  | false => rw [Hearing.afterDrops_of_firm drops]

/-- Every pass ends with what its sides give. -/
theorem Hearing.derivePass_settle (n : Nat) (sides : Pair LocalRequest) :
    h.derivePass (h.settle n sides).sides = h.settle n sides := by
  induction n generalizing sides with
  | zero => rfl
  | succ n ih =>
    unfold Hearing.settle
    dsimp only
    split_ifs
    · exact ih _
    · rfl

theorem Hearing.settle_drops (n : Nat) (sides : Pair LocalRequest) (x : Side) :
    h.Drops x (sides.get x) ((h.settle n sides).sides.get x) := by
  induction n generalizing sides with
  | zero => exact .refl _ _ _
  | succ n ih =>
    unfold Hearing.settle
    dsimp only
    split_ifs
    · have rest := ih (Pair.each fun y => h.afterDrops y (sides.get y) (h.ring.isServed (h.derivePass sides).served y))
      rw [Pair.get_each] at rest
      exact .trans (h.afterDrops_drops x _ _) rest
    · exact .refl _ _ _

/-- Nothing more is dropped after as many passes as there are parts to drop. -/
theorem Hearing.settle_firm (n : Nat) (sides : Pair LocalRequest)
    (enough : (sides.get .east).weight + (sides.get .west).weight ≤ n) (x : Side) :
    ((h.settle n sides).sides.get x).drops (h.ring.isServed (h.settle n sides).served x) = false := by
  induction n generalizing sides with
  | zero =>
    have none : (sides.get x).weight = 0 := by cases x <;> omega
    change (sides.get x).drops _ = false
    by_contra drops
    have less := h.afterDrops_weight_lt x (by simpa using drops)
    omega
  | succ n ih =>
    unfold Hearing.settle
    dsimp only
    split_ifs with drops
    · refine ih _ ?_
      rw [Pair.get_each, Pair.get_each]
      have east := h.afterDrops_weight_le .east (sides.get .east) (h.ring.isServed (h.derivePass sides).served .east)
      have west := h.afterDrops_weight_le .west (sides.get .west) (h.ring.isServed (h.derivePass sides).served .west)
      obtain fell | fell := Bool.or_eq_true_iff.mp drops
      · have less := h.afterDrops_weight_lt .east fell
        omega
      · have less := h.afterDrops_weight_lt .west fell
        omega
    · simp only [Bool.not_eq_true, Bool.or_eq_false_iff] at drops
      cases x
      · exact drops.1
      · exact drops.2

theorem LocalRequest.weight_le (l : LocalRequest) : l.weight ≤ 2 := by
  unfold LocalRequest.weight
  split_ifs <;> omega

theorem Hearing.derive_drops (h : Hearing) (sides : Pair LocalRequest) (x : Side) :
    h.Drops x (sides.get x) ((h.derive sides).sides.get x) := Hearing.settle_drops 5 sides x

theorem Hearing.derivePass_derive (h : Hearing) (sides : Pair LocalRequest) :
    h.derivePass (h.derive sides).sides = h.derive sides := Hearing.derivePass_settle 5 sides

theorem Hearing.derive_firm (h : Hearing) (sides : Pair LocalRequest) (x : Side) :
    ((h.derive sides).sides.get x).drops (h.ring.isServed (h.derive sides).served x) = false := by
  have east := (sides.get .east).weight_le
  have west := (sides.get .west).weight_le
  exact Hearing.settle_firm 5 sides (by omega) x

end Passes

/-! ### The unit's own invariant, side by side -/

/-- A settle timer runs only under a SETTLE (R73). -/
def LocalRequest.timed (l : LocalRequest) : Prop := l.settleTimer.isSome = true → l.line = .settle

/-- The line part follows a declared level (R71, R72). -/
def LocalRequest.follows (l : LocalRequest) (level : Level) : Prop :=
  (l.line = .dark ↔ level = .dark) ∧ (l.line = .dim ↔ level = .dim)

theorem LocalRequest.drops_eq_false_iff (l : LocalRequest) (served : Bool) :
    l.drops served = false ↔
      (l.line = .settle → l.effective = .settle ∧ served = true) ∧ (l.operator = .ask → served = true) := by
  simp only [LocalRequest.drops, LocalRequest.losesSettle, LocalRequest.losesAsk, Bool.or_eq_false_iff,
    Bool.and_eq_false_imp, beq_iff_eq, Bool.not_eq_false', bne_eq_false_iff_eq]

section Units

variable {h : Hearing} {x : Side} {l q : LocalRequest}

theorem Hearing.Drops.timed (drops : h.Drops x l q) (timed : l.timed) : q.timed := by
  intro runs
  obtain ⟨line, timer⟩ | ⟨-, -, stopped⟩ := drops.line
  · rw [line]
    exact timed (timer ▸ runs)
  · rw [stopped] at runs
    cases runs

theorem Hearing.Drops.follows (drops : h.Drops x l q) {level : Level} (follows : l.follows level) : q.follows level := by
  unfold LocalRequest.follows
  obtain ⟨line, -⟩ | ⟨settle, none, -⟩ := drops.line
  · rw [line]
    exact follows
  · rw [none]
    unfold LocalRequest.follows at follows
    rw [settle] at follows
    simpa using follows

/-- What the sides hold of their own: timers under a SETTLE and, where `F`, line parts that follow the levels. -/
structure SidesHold (F : Prop) (s : State) : Prop where
  timed : ∀ x, (s.requests.sides.get x).timed
  follows : F → ∀ x, (s.requests.sides.get x).follows (s.monitors.get x).declared

/-- The Request Unit's part of the invariant in a LOADED part. -/
structure RequestsHold (F : Prop) (s : State) : Prop extends SidesHold F s where
  pass : s.hearing.derivePass s.requests.sides = s.requests
  firm : ∀ x, (s.requests.sides.get x).drops (s.geo.isServed s.requests.served x) = false

end Units

section Holds

variable {F : Prop} {s t : State}

theorem requestsHold_of_settled (running : s.running = true) (settled : RequestsSettled s) (follows : F → LinesFollowLevels s) :
    RequestsHold F s := by
  obtain ⟨pass, sides⟩ := settled running
  refine { timed := fun x => (sides x).2.2, follows := fun f => follows f running, pass := pass, firm := fun x => ?_ }
  exact (LocalRequest.drops_eq_false_iff _ _).mpr ⟨(sides x).1, (sides x).2.1⟩

theorem RequestsHold.settled (hold : RequestsHold F s) : RequestsSettled s := fun _ =>
  ⟨hold.pass, fun x =>
    have firm := (LocalRequest.drops_eq_false_iff _ _).mp (hold.firm x)
    ⟨firm.1, firm.2, hold.timed x⟩⟩

theorem RequestsHold.lines (hold : RequestsHold F s) (f : F) : LinesFollowLevels s := fun _ => hold.follows f

theorem SidesHold.of_same (hold : SidesHold F s) (requests : t.requests = s.requests) (monitors : t.monitors = s.monitors) :
    SidesHold F t := by
  refine ⟨fun x => ?_, fun f x => ?_⟩
  · rw [requests]
    exact hold.timed x
  · rw [requests, monitors]
    exact hold.follows f x

theorem RequestsHold.of_same (hold : RequestsHold F s) (requests : t.requests = s.requests)
    (monitors : t.monitors = s.monitors) (pass : t.hearing.derivePass = s.hearing.derivePass)
    (geo : t.geo.isServed = s.geo.isServed) : RequestsHold F t := by
  refine { hold.toSidesHold.of_same requests monitors with pass := ?_, firm := fun x => ?_ }
  · rw [pass, requests]
    exact hold.pass
  · rw [geo, requests]
    exact hold.firm x

end Holds

end Sys2Proof.Machine
end

section
/-!
Proofs about the Request Unit inside a step: every derivation leaves the unit settled, every event that changes what the unit
reads is followed by one, and the line parts go on following the declared levels.
-/

namespace Sys2Proof.Machine

section Derivations

variable {F : Prop} {s t : State}

/-- Handing a derivation on leaves the Request Unit and the monitors. -/
theorem handOn_keeps (s : State) (old : RequestUnit) :
    onlyChanges [.protocol, .ports, .plan, .attention, .orders] s (s.handOn old) := by
  have trigger (t : State) := onlyChanges_mono (cs := [.protocol, .ports, .plan, .attention, .orders]) (trigger_only t)
    (by decide)
  have switch (t : State) := onlyChanges_mono (cs := [.protocol, .ports, .plan, .attention, .orders])
    (switchTakesDerivation_only t) (by decide)
  have order (t : State) := onlyChanges_mono (cs := [.protocol, .ports, .plan, .attention, .orders]) (dropOrder_only t)
    (by decide)
  unfold State.handOn
  split
  · exact onlyChanges_refl _ s
  · exact trigger s
  · exact switch s
  · split_ifs
    · exact onlyChanges_trans (order s) (onlyChanges_trans (trigger _) (switch _))
    · exact onlyChanges_trans (order s) (onlyChanges_trans (switch _) (trigger _))

theorem deriveFrom_requests (s : State) (sides : Pair LocalRequest) :
    (s.deriveFrom sides).requests = s.hearing.derive sides := handOn_keeps _ _ .requests (by decide)

theorem deriveFrom_monitors (s : State) (sides : Pair LocalRequest) : (s.deriveFrom sides).monitors = s.monitors :=
  deriveFrom_only s sides .monitors (by decide)

/-- What a derivation makes of the parts of a side. -/
theorem deriveFrom_drops (s : State) (sides : Pair LocalRequest) (x : Side) :
    s.hearing.Drops x (sides.get x) ((s.deriveFrom sides).requests.sides.get x) := by
  rw [deriveFrom_requests]
  exact Hearing.derive_drops _ _ _

/-- Every derivation leaves the unit settled (R85). -/
theorem deriveFrom_hold {sides : Pair LocalRequest} (timed : ∀ x, (sides.get x).timed)
    (follows : F → ∀ x, (sides.get x).follows (s.monitors.get x).declared) : RequestsHold F (s.deriveFrom sides) := by
  refine { timed := fun x => (deriveFrom_drops s sides x).timed (timed x), follows := fun f x => ?_, pass := ?_,
           firm := fun x => ?_ }
  · rw [deriveFrom_monitors]
    exact (deriveFrom_drops s sides x).follows (follows f x)
  · rw [(deriveFrom_works s sides).hearing, deriveFrom_requests]
    exact Hearing.derivePass_derive _ _
  · rw [(deriveFrom_works s sides).geo, deriveFrom_requests]
    exact Hearing.derive_firm _ _ _

theorem changeLocal_hold (hold : SidesHold F s) {x : Side} {l : LocalRequest} (timed : l.timed)
    (follows : F → l.follows (s.monitors.get x).declared) : RequestsHold F (s.changeLocal x l) := by
  refine deriveFrom_hold (fun y => ?_) fun f y => ?_
  · rw [Pair.get_set]
    split_ifs
    · exact timed
    · exact hold.timed y
  · rw [Pair.get_set]
    split_ifs with same
    · exact same ▸ follows f
    · exact hold.follows f y

/-- Work that touches neither the unit's own parts nor the monitors. -/
theorem Works.requestsHold (works : Works s t) (requests : t.requests = s.requests) (monitors : t.monitors = s.monitors)
    (hold : RequestsHold F s) : RequestsHold F t :=
  hold.of_same requests monitors (by rw [works.hearing]) (by rw [works.geo])

/-! ### Declared levels (R71, R72) -/

/-- The line part after a declared level, whatever stood before it. -/
theorem requestTakesLevel_hold {x : Side} {level : Level} (timed : ∀ y, (s.requests.sides.get y).timed)
    (follows : F → ∀ y, y ≠ x → (s.requests.sides.get y).follows (s.monitors.get y).declared)
    (declared : (s.monitors.get x).declared = level) : RequestsHold F (s.requestTakesLevel x level) := by
  have change {l : LocalRequest} (lTimed : l.timed) (lFollows : l.follows level) : RequestsHold F (s.changeLocal x l) := by
    refine deriveFrom_hold (fun y => ?_) fun f y => ?_
    · rw [Pair.get_set]
      split_ifs
      · exact lTimed
      · exact timed y
    · rw [Pair.get_set]
      split_ifs with same
      · rw [same, declared]
        exact lFollows
      · exact follows f y same
  have stopped {line : LinePart} {l : LocalRequest} :
      LocalRequest.timed { l with line := line, settleTimer := none } := fun runs => nomatch runs
  unfold State.requestTakesLevel
  dsimp only
  cases level with
  | dim => exact change stopped (by simp [LocalRequest.follows])
  | dark => exact change stopped (by simp [LocalRequest.follows])
  | clear =>
    by_cases idle : (s.protocol.sides.get x).decided = .idle
    · rw [if_pos idle]
      exact change stopped (by simp [LocalRequest.follows])
    · rw [if_neg idle]
      exact change (fun _ => rfl) (by simp [LocalRequest.follows])

/-- A monitor moves: its declared level stands, or the line part of its side follows the new one. -/
theorem setMonitor_declare_cases (hold : SidesHold F s) (x : Side) (m : Monitor) :
    ((s.setMonitor x m).declare x (s.monitors.get x).declared = s.setMonitor x m ∧ SidesHold F (s.setMonitor x m)) ∨
      RequestsHold F ((s.setMonitor x m).declare x (s.monitors.get x).declared) := by
  have declared : ((s.setMonitor x m).monitors.get x).declared = m.declared := by
    rw [State.setMonitor, State.setMonitors_monitors, Pair.get_set_same]
  by_cases same : ((s.setMonitor x m).monitors.get x).declared = (s.monitors.get x).declared
  · refine .inl ⟨if_pos same, hold.timed, fun f y => ?_⟩
    rw [declared] at same
    change (s.requests.sides.get y).follows ((s.monitors.set x m).get y).declared
    rw [Pair.get_set]
    split_ifs with here
    · rw [same, ← here]
      exact hold.follows f y
    · exact hold.follows f y
  · right
    rw [State.declare]
    refine if_neg same ▸ requestTakesLevel_hold hold.timed (fun f y ne => ?_) rfl
    change (s.requests.sides.get y).follows ((s.monitors.set x m).get y).declared
    rw [Pair.get_set, if_neg ne]
    exact hold.follows f y

theorem setMonitor_declare_sides (hold : SidesHold F s) (x : Side) (m : Monitor) :
    SidesHold F ((s.setMonitor x m).declare x (s.monitors.get x).declared) := by
  obtain ⟨still, sides⟩ | derived := setMonitor_declare_cases hold x m
  · rw [still]
    exact sides
  · exact derived.toSidesHold

theorem setMonitor_declare_hold (hold : RequestsHold F s) (x : Side) (m : Monitor) :
    RequestsHold F ((s.setMonitor x m).declare x (s.monitors.get x).declared) := by
  obtain ⟨still, sides⟩ | derived := setMonitor_declare_cases hold.toSidesHold x m
  · rw [still]
    exact { sides with pass := hold.pass, firm := hold.firm }
  · exact derived

theorem formRaw_sides (hold : SidesHold F s) (x : Side) : SidesHold F (s.formRaw x) := by
  unfold State.formRaw
  dsimp only
  split_ifs
  · exact hold
  · exact setMonitor_declare_sides hold x _

theorem formRaw_hold (hold : RequestsHold F s) (x : Side) : RequestsHold F (s.formRaw x) := by
  unfold State.formRaw
  dsimp only
  split_ifs
  · exact hold
  · exact setMonitor_declare_hold hold x _

/-! ### Standing notices (R61, R63) -/

theorem setPort_hearing {x : Side} {p : Port} (standing : p.standing = (s.ports.get x).standing) :
    (s.setPort x p).hearing = s.hearing := by
  have same : (fun y => ((s.ports.set x p).get y).standing) = fun y => (s.ports.get y).standing := by
    funext y
    rw [Pair.get_set]
    split_ifs with here
    · rw [standing, here]
    · rfl
  exact congrArg (fun standing => { ring := s.geo, standing := Pair.each standing, now := s.now : Hearing }) same

/-- A link leaves every echo hold's list: the parts stand. -/
theorem leaveEcho_parts (l : LocalRequest) (link : Side) :
    (l.leaveEcho link).line = l.line ∧ (l.leaveEcho link).operator = l.operator ∧
      (l.leaveEcho link).settleTimer = l.settleTimer := by
  unfold LocalRequest.leaveEcho
  split
  · exact ⟨rfl, rfl, rfl⟩
  · exact ⟨rfl, rfl, rfl⟩

theorem requestTakesStanding_hold (hold : SidesHold F s) (x : Side) : RequestsHold F (s.requestTakesStanding x) := by
  refine deriveFrom_hold (fun y => ?_) fun f y => ?_
  · obtain ⟨line, -, timer⟩ := leaveEcho_parts (s.requests.sides.get y) x
    rw [Pair.get_each, LocalRequest.timed, line, timer]
    exact hold.timed y
  · obtain ⟨line, -, -⟩ := leaveEcho_parts (s.requests.sides.get y) x
    rw [Pair.get_each, LocalRequest.follows, line]
    exact hold.follows f y

theorem switchTakesStanding_requests (s : State) (x : Side) : (s.switchTakesStanding x).requests = s.requests :=
  switchTakesStanding_only s x .requests (by decide)

theorem switchTakesStanding_monitors (s : State) (x : Side) : (s.switchTakesStanding x).monitors = s.monitors :=
  switchTakesStanding_only s x .monitors (by decide)

theorem takesStanding_sides (hold : SidesHold F s) (x : Side) (linkChanged : Bool) (t : Taker) :
    SidesHold F (s.takesStanding x linkChanged t) := by
  cases t with
  | switchUnit => exact hold.of_same (switchTakesStanding_requests s x) (switchTakesStanding_monitors s x)
  | requestUnit => exact (requestTakesStanding_hold hold x).toSidesHold
  | lineMonitor =>
    unfold State.takesStanding
    dsimp only
    split_ifs
    · exact formRaw_sides hold x
    · exact hold

theorem takesStanding_hold (hold : RequestsHold F s) (x : Side) (linkChanged : Bool) (t : Taker) :
    RequestsHold F (s.takesStanding x linkChanged t) := by
  cases t with
  | switchUnit =>
    exact (switchTakesStanding_works s x).requestsHold (switchTakesStanding_requests s x) (switchTakesStanding_monitors s x)
      hold
  | requestUnit => exact requestTakesStanding_hold hold.toSidesHold x
  | lineMonitor =>
    unfold State.takesStanding
    dsimp only
    split_ifs
    · exact formRaw_hold hold x
    · exact hold

/-- A change of a standing notice reaches the Request Unit, whatever the order of the takers, and leaves it settled. -/
theorem handStanding_hold (hold : SidesHold F s) (x : Side) (linkChanged : Bool) :
    RequestsHold F (s.handStanding x linkChanged) := by
  refine handStanding_reaches (P := SidesHold F) (Q := RequestsHold F) .requestUnit
    (fun u t sides => takesStanding_sides sides x linkChanged t) (fun u sides => ?_)
    (fun u t _ settled => takesStanding_hold settled x linkChanged t) (hold.of_same rfl rfl)
  exact requestTakesStanding_hold sides x

/-! ### Events and requests -/

theorem RequestsHold.of_only {bs : List Block} (hold : RequestsHold F s) (only : onlyChanges bs s t)
    (apart : ∀ b ∈ bs, b ∉ [Block.requests, .monitors, .ports, .ring, .now]) : RequestsHold F t := by
  have kept (b : Block) (held : b ∈ [Block.requests, .monitors, .ports, .ring, .now]) : sameBlock s t b :=
    only b fun touched => apart b touched held
  have ring : t.ring = s.ring := kept .ring (by decide)
  have ports : t.ports = s.ports := kept .ports (by decide)
  have now : t.now = s.now := kept .now (by decide)
  refine hold.of_same (kept .requests (by decide)) (kept .monitors (by decide)) ?_ ?_
  · rw [State.hearing, State.geo, ring, ports, now]
    rfl
  · rw [State.geo, ring]
    rfl

theorem eachSide_formRaw_hold (hold : RequestsHold F s) : RequestsHold F (s.eachSide fun x t => t.formRaw x) := by
  have order : RequestsHold F s.dropOrder := hold.of_same rfl rfl rfl rfl
  unfold State.eachSide
  dsimp only
  split_ifs
  · exact formRaw_hold (formRaw_hold order _) _
  · exact formRaw_hold (formRaw_hold order _) _

theorem receive_hold (hold : RequestsHold F s) (x : Side) (frame : List Byte) : RequestsHold F (s.receive x frame) := by
  have port {p : Port} (standing : p.standing = (s.ports.get x).standing) : RequestsHold F (s.setPort x p) := by
    refine hold.of_same rfl rfl ?_ rfl
    rw [setPort_hearing standing]
  have discard (kind : FaultKind) (detail : Nat) : RequestsHold F (s.discardFrame x kind detail) :=
    (port (p := { s.ports.get x with run := none }) rfl).of_same rfl rfl rfl rfl
  unfold State.receive
  split_ifs
  · exact hold
  · split
    · exact discard _ _
    · exact discard _ _
    · unfold State.acceptFrame
      dsimp only
      split_ifs
      · refine handStanding_hold ?_ x _
        exact hold.toSidesHold.of_same rfl rfl
      · exact port rfl

theorem linkExpires_hold (hold : RequestsHold F s) (x : Side) : RequestsHold F (s.linkExpires x) := by
  unfold State.linkExpires
  dsimp only
  split_ifs
  · refine handStanding_hold ?_ x _
    exact hold.toSidesHold.of_same rfl rfl
  · exact hold

/-- The end of a settle timer is the end of a SETTLE, which no declared level asks for. -/
theorem settleExpires_hold (hold : RequestsHold F s) (x : Side) : RequestsHold F (s.settleExpires x) := by
  unfold State.settleExpires
  dsimp only
  split_ifs with due
  · have settle : (s.requests.sides.get x).line = .settle := hold.timed x (isSome_of_due due)
    refine changeLocal_hold hold.toSidesHold (fun runs => nomatch runs) fun f => ?_
    have follows := hold.follows f x
    unfold LocalRequest.follows at *
    rw [settle] at follows
    simpa using follows
  · exact hold

theorem echoExpires_hold (hold : RequestsHold F s) (x : Side) : RequestsHold F (s.echoExpires x) := by
  unfold State.echoExpires
  dsimp only
  split_ifs
  · refine deriveFrom_hold (fun y => ?_) fun f y => ?_
    · rw [Pair.get_set]
      split_ifs with same
      · rw [same] at *
        exact hold.timed x
      · exact hold.timed y
    · rw [Pair.get_set]
      split_ifs with same
      · rw [same]
        exact hold.follows f x
      · exact hold.follows f y
  · exact hold

theorem Happens.requestsHold (event : Happens s t) (hold : RequestsHold F s) : RequestsHold F t := by
  cases event with
  | receiver =>
    refine formRaw_hold ?_ _
    exact hold.of_same rfl rfl rfl rfl
  | freezePin => exact hold.of_only (takeFreezePin_only s _) (by decide)
  | period => exact hold.of_same rfl rfl rfl rfl
  | @dimExpires x =>
    unfold State.dimExpires
    dsimp only
    split_ifs
    · exact setMonitor_declare_hold hold x _
    · exact hold
  | @darkExpires x =>
    unfold State.darkExpires
    dsimp only
    split_ifs
    · exact setMonitor_declare_hold hold x _
    · exact hold
  | @soakExpires x =>
    unfold State.soakExpires
    dsimp only
    split_ifs
    · exact setMonitor_declare_hold hold x _
    · exact hold
  | receives => exact receive_hold hold _ _
  | linkExpires => exact linkExpires_hold hold _
  | settleExpires => exact settleExpires_hold hold _
  | echoExpires => exact echoExpires_hold hold _
  | answerExpires =>
    unfold State.answerExpires
    dsimp only
    split_ifs
    · refine (closeSwitch_works _).requestsHold (closeSwitch_only _ .requests (by decide))
        (closeSwitch_only _ .monitors (by decide)) ?_
      exact hold.of_same rfl rfl rfl rfl
    · exact hold
  | completes => exact hold.of_only (completeSweep_only s) (by decide)
  | @done g =>
    obtain same | ⟨v, w, before, works, after⟩ := takeDone_works s g
    · exact same.symm ▸ hold
    · have only := takeDone_only s g
      have requests : w.requests = v.requests :=
        (after .requests (by decide)).symm.trans ((only .requests (by decide)).trans (before .requests (by decide)).symm)
      have monitors : w.monitors = v.monitors :=
        (after .monitors (by decide)).symm.trans ((only .monitors (by decide)).trans (before .monitors (by decide)).symm)
      exact (works.requestsHold requests monitors (hold.of_only before (by decide))).of_only after (by decide)
  | fabricExpires => exact hold.of_only (fabricExpires_only s) (by decide)

/-! ### The held blocks start -/

/-- With nothing asked for and nothing heard, every span is QUIET and nothing is served. -/
theorem Hearing.record_of_silent {h : Hearing} (silent : ∀ x, h.standing.get x = none) (span : Nat) :
    h.record ⟨LocalRequest.idle, LocalRequest.idle⟩ span = SpanRecord.quiet := by
  have idle (x : Side) : (Pair.get ⟨LocalRequest.idle, LocalRequest.idle⟩ x).effective = .quiet := by
    cases x <;> rfl
  have reporter (p : Nat) : h.reporterAt ⟨LocalRequest.idle, LocalRequest.idle⟩ span p = none := by
    unfold Hearing.reporterAt
    dsimp only
    split_ifs with here quiet
    · rfl
    · exact absurd (idle _) quiet
    · simp [Hearing.heardFrom, Hearing.contribution, silent]
  simp [Hearing.record, reporter, SpanRecord.quiet]

theorem Hearing.derivePass_of_silent {h : Hearing} (silent : ∀ x, h.standing.get x = none) :
    h.derivePass ⟨LocalRequest.idle, LocalRequest.idle⟩ =
      { RequestUnit.held with records := List.replicate h.ring.size SpanRecord.quiet } := by
  have served : h.ring.servedSet (h.kinds ⟨LocalRequest.idle, LocalRequest.idle⟩) = [] := by
    have quiet : ∀ e ∈ h.kinds ⟨LocalRequest.idle, LocalRequest.idle⟩, e.kind = .quiet := by
      simp only [Hearing.kinds, Hearing.record_of_silent silent, List.mem_map]
      rintro e ⟨i, -, rfl⟩
      rfl
    refine List.eq_nil_iff_forall_not_mem.mpr fun e mem => ?_
    have known := Ring.servedSet_subset mem
    unfold Ring.servedSet at mem
    split_ifs at mem
    · have bar := (List.mem_filter.mp mem).2
      rw [quiet e known] at bar
      cases bar
    · have segmenting := (List.mem_filter.mp mem).2
      rw [quiet e known] at segmenting
      cases segmenting
    · have single := (List.mem_filter.mp ((Ring.mem_reportOrder _ _ _).mp (List.mem_of_mem_take mem))).2
      rw [quiet e known] at single
      cases single
  unfold Hearing.derivePass
  dsimp only
  rw [served]
  simp only [Hearing.record_of_silent silent, Ring.roleFor_eq_idle_iff.mpr rfl]
  simp [RequestUnit.held, SpanRecord.quiet, List.map_const']

theorem freshBlocks_hold (s : State) : RequestsHold F s.freshBlocks := by
  have idle (x : Side) : s.freshBlocks.requests.sides.get x = LocalRequest.idle := by cases x <;> rfl
  have held (x : Side) : s.freshBlocks.monitors.get x = Monitor.held := by cases x <;> rfl
  refine { timed := fun x => ?_, follows := fun _ x => ?_, pass := ?_, firm := fun x => ?_ }
  · rw [idle]
    exact fun runs => nomatch runs
  · rw [idle, held]
    simp [LocalRequest.follows, LocalRequest.idle, Monitor.held]
  · exact Hearing.derivePass_of_silent fun x => by cases x <;> rfl
  · rw [idle]
    rfl

theorem startBlocks_hold (s : State) : RequestsHold F s.startBlocks := eachSide_formRaw_hold (freshBlocks_hold s)

/-! ### Requests -/

theorem setOperator_hold (hold : RequestsHold F s) (x : Side) (part : OperatorPart) :
    RequestsHold F (s.setOperator x part) := by
  unfold State.setOperator
  dsimp only
  split_ifs
  · exact hold
  · exact changeLocal_hold hold.toSidesHold (hold.timed x) fun f => hold.follows f x

theorem release_hold (hold : RequestsHold F s) (x : Side) :
    RequestsHold F (s.changeLocal x (s.requests.sides.get x).released) := by
  have follows (f : F) := hold.follows f x
  unfold LocalRequest.released
  split_ifs with settle
  · refine changeLocal_hold hold.toSidesHold (fun runs => nomatch runs) fun f => ?_
    have follows := hold.follows f x
    unfold LocalRequest.follows at *
    rw [settle] at follows
    simpa using follows
  · exact changeLocal_hold hold.toSidesHold (hold.timed x) fun f => hold.follows f x

theorem Ring.insertReported_congr {q r : Ring} (same : q.reportedBefore = r.reportedBefore) (e : ServedEntry)
    (l : List ServedEntry) : q.insertReported e l = r.insertReported e l := by
  induction l with
  | nil => rfl
  | cons f rest ih => rw [Ring.insertReported, Ring.insertReported, same, ih]

theorem Ring.servedSet_congr {q r : Ring} (same : q.reportedBefore = r.reportedBefore) (l : List ServedEntry) :
    q.servedSet l = r.servedSet l := by
  have inserted : q.insertReported = r.insertReported := by
    funext e l
    exact Ring.insertReported_congr same e l
  rw [Ring.servedSet, Ring.servedSet, Ring.reportOrder, Ring.reportOrder, inserted]

/-- A derivation does not read the delays of the ring. -/
theorem Hearing.derivePass_of_delays (r : Ring) (transit : Nat) (delays : List Nat) (standing : Pair (Option Notice))
    (now : Nat) :
    Hearing.derivePass { ring := { r with transit := transit, delays := delays }, standing := standing, now := now } =
      Hearing.derivePass { ring := r, standing := standing, now := now } := by
  funext sides
  have served := Ring.servedSet_congr (q := { r with transit := transit, delays := delays }) (r := r) rfl
    (Hearing.kinds { ring := r, standing := standing, now := now } sides)
  exact congrArg (fun served : List ServedEntry =>
    { sides := sides
      records := (List.range r.size).map fun s =>
        { Hearing.record { ring := r, standing := standing, now := now } sides s with
          served := served.any fun e => e.span == s }
      served := served
      role := r.roleFor served : RequestUnit }) served

/-- The delays of the ring are nothing to the Request Unit. -/
theorem RequestsHold.storeRing (hold : RequestsHold F s) (transit : Ring → Nat) (delays : Ring → List Nat) :
    RequestsHold F (s.setRing (s.ring.map fun r => { r with transit := transit r, delays := delays r })) := by
  cases ring : s.ring with
  | none =>
    refine hold.of_same rfl rfl ?_ ?_
    · rw [State.hearing, State.hearing, State.geo, State.geo, ring]
      rfl
    · rw [State.geo, State.geo, ring]
      rfl
  | some r =>
    have geo : s.geo = r := State.geo_of_ring ring
    refine hold.of_same rfl rfl ?_ ?_
    · rw [State.hearing, State.hearing, geo]
      exact Hearing.derivePass_of_delays r _ _ _ _
    · rw [geo]
      rfl

theorem writeSettings_hold (hold : RequestsHold F s) (b : SettingsBody) : RequestsHold F (s.writeSettings b) := by
  have stored : RequestsHold F (s.storeSettings b) :=
    (hold.storeRing (fun r => r.givenTransit b) fun r => r.delays).of_same rfl rfl rfl rfl
  have triggered : RequestsHold F (if s.changesTransit b then (s.storeSettings b).trigger else s.storeSettings b) := by
    split_ifs
    · exact stored.of_only (trigger_only _) (by decide)
    · exact stored
  unfold State.writeSettings
  dsimp only
  by_cases dim : (s.storeSettings b).settings.dimThreshold = s.settings.dimThreshold
  · rw [if_pos dim]
    exact triggered
  · rw [if_neg dim]
    exact eachSide_formRaw_hold triggered

theorem Served.requestsHold {code : Byte} (served : Served code s t) (running : s.running = true) (hold : RequestsHold F s) :
    RequestsHold F t := by
  cases served with
  | same => exact hold
  | add => exact hold.of_only (addCircuit_only s _) (by decide)
  | edit => exact hold.of_only (editCircuit_only s _ _) (by decide)
  | retire => exact hold.of_only (retireCircuit_only s _) (by decide)
  | walk => exact hold.of_same rfl rfl rfl rfl
  | @delay span delay =>
    have stored := hold.storeRing (fun r => r.transit) fun r => (r.withDelay span delay).delays
    unfold State.setDelay
    dsimp only
    split_ifs
    · exact stored
    · exact RequestsHold.of_only stored (trigger_only _) (by decide)
  | operator => exact setOperator_hold hold _ _
  | release => exact release_hold hold _
  | settings => exact writeSettings_hold hold _
  | freeze => exact hold.of_only (setFreezeFlag_only s _) (by decide)
  | arm => exact hold.of_only (armPart_only s) (by decide)
  | restart =>
    rw [State.softRestart, if_pos running]
    exact startBlocks_hold _
  | clear => exact hold.of_same rfl rfl rfl rfl

/-- A request never makes a part LOADED. -/
theorem Served.running_of_running {code : Byte} (served : Served code s t) (running : t.running = true) :
    s.running = true := by
  obtain same | ⟨runs, -⟩ | ⟨runs, -⟩ | ⟨-, begun⟩ := served.loader
  · rw [State.running, ← same]
    exact running
  · exact runs
  · exact runs
  · rw [State.running, begun] at running
    cases running

theorem Does.requestsHold {c : Instr} (does : Does c s t) (running : t.running = true)
    (hold : s.running = true → RequestsHold F s) : RequestsHold F t := by
  cases does with
  | idle => exact hold running
  | reset => cases running
  | release held =>
    rw [not_running_of_load (releaseReset_load held) (by decide)] at running
    cases running
  | imageByte loading =>
    have out := takeImageByte_load_ne loading (s := s)
    exact absurd (by simpa [State.running] using running) (out _)
  | loadFails => cases running
  | loads => exact startBlocks_hold _
  | happens event =>
    have loader : t.loader = s.loader := event.only .loader (by decide)
    rw [State.running, loader] at running
    exact event.requestsHold (hold running)
  | @notReady mdi =>
    have loader : (s.notReadyWindow mdi).loader = s.loader := notReadyWindow_only s mdi .loader (by decide)
    rw [State.running, loader] at running
    exact (hold running).of_only (notReadyWindow_only s _) (by decide)
  | shows => exact (hold running).of_same rfl rfl rfl rfl
  | corrupt => exact (hold running).of_same rfl rfl rfl rfl
  | unknown => exact (hold running).of_same rfl rfl rfl rfl
  | @serves i code u a rdy named served =>
    have runs : s.running = true := served.running_of_running (s := s.deliver i) running
    exact (served.requestsHold (s := s.deliver i) runs ((hold runs).of_same rfl rfl rfl rfl)).of_same rfl rfl rfl rfl

end Derivations

/-- Settles O56: a derivation of five passes drops every SETTLE and ASK that its own result outranks, each event that changes
what the unit reads ends in one, and a line part is written where its declared level moves. -/
theorem requestsStaySettled : Obligations.RequestsStaySettled := by
  unfold Obligations.RequestsStaySettled
  intro s t _ settled run
  have hold := step_keeps (P := fun u => u.running = true → RequestsHold (LinesFollowLevels s) u)
    (fun _ _ hold running => (hold running).of_same rfl rfl rfl rfl)
    (fun does hold running => does.requestsHold running hold) (s := s)
    (fun running => requestsHold_of_settled running settled id) run
  exact ⟨fun running => (hold running).settled running, fun follows running => (hold running).lines follows running⟩

end Sys2Proof.Machine
end

section
/-!
Proofs about the Plan Engine and the Fabric Port (chapter 8): whatever changes what a sweep reads is followed by a trigger, and
an open gate with a map waiting has a publication in flight.
-/

namespace Sys2Proof.Machine

/-! ### The engine's counts and its snapshot (R134, R136, R137) -/

/-- Restart count, follow-up and sweep fit each other. -/
def PlanEngine.counted (e : PlanEngine) : Prop :=
  e.restarts ≤ 4 ∧ (e.sweep = none → e.restarts = 0) ∧ (e.followUp = true → e.sweep.isSome = true ∧ e.restarts = 4)

/-- The sweep that runs has the present values in its snapshot, or a follow-up is due. -/
def State.sweepsPresent (s : State) : Prop :=
  ∀ sweep, s.plan.sweep = some sweep → s.plan.followUp = false → sweep.snapshot = s.snapshot

/-- What a piece of work hands to the Plan Engine: it leaves what a sweep reads and the engine alone, or the engine has taken
it (R88, R97, R133). -/
structure Hands (s t : State) : Prop where
  counted : s.plan.counted → t.plan.counted
  told : t.snapshot = s.snapshot ∧ t.plan = s.plan ∨ (s.plan.counted → t.sweepsPresent ∧ t.plan.sweep.isSome = true)

section Handing

variable {s t u : State}

theorem Hands.of_same (snapshot : t.snapshot = s.snapshot) (plan : t.plan = s.plan) : Hands s t :=
  ⟨fun counted => plan ▸ counted, .inl ⟨snapshot, plan⟩⟩

theorem Hands.refl (s : State) : Hands s s := .of_same rfl rfl

theorem Hands.trans (first : Hands s t) (second : Hands t u) : Hands s u := by
  refine ⟨fun counted => second.counted (first.counted counted), ?_⟩
  obtain ⟨snapshot, plan⟩ | told := second.told
  · obtain ⟨snapshot', plan'⟩ | told := first.told
    · exact .inl ⟨snapshot.trans snapshot', plan.trans plan'⟩
    · refine .inr fun counted => ?_
      obtain ⟨present, runs⟩ := told counted
      unfold State.sweepsPresent at *
      rw [snapshot, plan]
      exact ⟨present, runs⟩
  · exact .inr fun counted => told (first.counted counted)

theorem Hands.ite {p : Prop} [Decidable p] (yes : Hands s t) (no : Hands s u) : Hands s (if p then t else u) := by
  split
  · exact yes
  · exact no

/-- A sweep reads the served set and the records, the ring and the decided states alone. -/
theorem snapshot_of_same (requests : t.requests = s.requests) (ring : t.ring = s.ring)
    (decided : ∀ x, (t.protocol.sides.get x).decided = (s.protocol.sides.get x).decided) : t.snapshot = s.snapshot := by
  rw [State.snapshot, State.snapshot, requests, State.geo, ring, funext decided]
  rfl

theorem snapshot_of_only {bs : List Block} (only : onlyChanges bs s t)
    (apart : ∀ b ∈ bs, b ∉ [Block.requests, .ring, .protocol]) : t.snapshot = s.snapshot := by
  have kept (b : Block) (held : b ∈ [Block.requests, .ring, .protocol]) : sameBlock s t b :=
    only b fun touched => apart b touched held
  have protocol : t.protocol = s.protocol := kept .protocol (by decide)
  exact snapshot_of_same (kept .requests (by decide)) (kept .ring (by decide)) fun x => by rw [protocol]

theorem Hands.of_only {bs : List Block} (only : onlyChanges bs s t)
    (apart : ∀ b ∈ bs, b ∉ [Block.requests, .ring, .protocol, .plan]) : Hands s t := by
  refine .of_same (snapshot_of_only only fun b touched held => apart b touched ?_)
    (only .plan fun touched => apart .plan touched (by decide))
  simp only [List.mem_cons, List.not_mem_nil, or_false] at held ⊢
  tauto

/-- A trigger leaves the engine with the present values in its sweep, or a follow-up due. -/
theorem trigger_told (counted : s.plan.counted) :
    s.trigger.plan.counted ∧ s.trigger.sweepsPresent ∧ s.trigger.plan.sweep.isSome = true := by
  have runs := s.trigger_sweep_isSome
  have snapshot : s.trigger.snapshot = s.snapshot := snapshot_of_only (trigger_only s) (by decide)
  obtain ⟨low, idle, due⟩ := counted
  unfold State.sweepsPresent
  rw [snapshot]
  by_cases sweeping : s.sweeping = true
  · by_cases below : s.plan.restarts < 4
    · rw [State.trigger_of_below sweeping below]
      refine ⟨⟨below, (nomatch ·), fun follow => ?_⟩, fun sweep started _ => ?_, rfl⟩
      · have limit := (due follow).2
        omega
      · exact Option.some.inj started ▸ rfl
    · by_cases follow : s.plan.followUp = true
      · rw [State.trigger_of_due sweeping below follow]
        exact ⟨⟨low, idle, due⟩, fun _ _ free => absurd follow (by simp [free]), sweeping⟩
      · rw [State.trigger_of_limit sweeping below (by simpa using follow)]
        refine ⟨⟨low, fun none => ?_, fun _ => ⟨sweeping, ?_⟩⟩, (fun _ _ free => nomatch free), sweeping⟩
        · exact idle none
        · change s.plan.restarts = 4
          omega
  · have still : s.sweeping = false := by simpa using sweeping
    rw [State.trigger_of_idle still]
    refine ⟨⟨Nat.zero_le _, fun _ => rfl, fun follow => ?_⟩, fun sweep started _ => ?_, rfl⟩
    · exact absurd (due follow).1 sweeping
    · exact Option.some.inj started ▸ rfl

/-- A trigger after a change that leaves the counts of the engine. -/
theorem Hands.of_trigger (counts : s.plan.counted → t.plan.counted) : Hands s t.trigger :=
  ⟨fun counted => (trigger_told (counts counted)).1, .inr fun counted => (trigger_told (counts counted)).2⟩

theorem trigger_hands (s : State) : Hands s s.trigger := .of_trigger id

/-! ### The Switch Protocol Unit (R97) -/

/-- The unit with a derivation copied, before it closes the event (R92). -/
def SwitchUnit.copiesDerivation (u : SwitchUnit) (r : Ring) (unit : RequestUnit) : SwitchUnit :=
  { sides := Pair.each fun x => { u.sides.get x with span := unit.records[r.facing x]? }
    served := unit.served, role := unit.role }

/-- The unit with a standing notice copied, before it closes the event (R92). -/
def SwitchUnit.copiesStanding (u : SwitchUnit) (link : Side) (n : Option Notice) : SwitchUnit :=
  { u with sides := u.sides.set link { u.sides.get link with standing := n } }

/-- The unit with the realised states of a completed publication, before it closes the event (R98). -/
def SwitchUnit.realises (u : SwitchUnit) (decided : Pair SideState) : SwitchUnit :=
  { u with sides := Pair.each fun x => { u.sides.get x with realised := decided.get x } }

theorem switchTakesDerivation_eq (s : State) :
    s.switchTakesDerivation = (s.setProtocol (s.protocol.copiesDerivation s.geo s.requests)).closeSwitch := rfl

theorem switchTakesStanding_eq (s : State) (x : Side) :
    s.switchTakesStanding x = (s.setProtocol (s.protocol.copiesStanding x (s.ports.get x).standing)).closeSwitch := rfl

theorem switchTakesCompletion_eq (s : State) (decided : Pair SideState) :
    s.switchTakesCompletion decided = (s.setProtocol (s.protocol.realises decided)).closeSwitch.startAnswers := rfl

theorem writeChoice_hands (s : State) (x : Side) : Hands s (s.writeChoice x) := by
  have only := writeChoice_only s x
  refine .of_same (snapshot_of_same (only .requests (by decide)) (only .ring (by decide)) fun y => ?_)
    (only .plan (by decide))
  unfold State.writeChoice
  dsimp only
  split_ifs
  · rfl
  · change (((s.protocol.sides.set x _).get y).decided) = _
    rw [Pair.get_set]
    split_ifs with same
    · rw [same]
    · rfl

/-- The close of an event tells the Plan Engine of a changed decided state. -/
theorem closeSwitch_hands (s : State) : Hands s s.closeSwitch := by
  have decided : Hands s ((s.setProtocol (s.protocol.decideBoth s.geo)).triggerIfDecided s.protocol .east
      |>.triggerIfDecided s.protocol .west) := by
    by_cases east : (s.protocol.sides.get .east).decided = ((s.protocol.decideBoth s.geo).sides.get .east).decided
    · have first : (s.setProtocol (s.protocol.decideBoth s.geo)).triggerIfDecided s.protocol .east =
        s.setProtocol (s.protocol.decideBoth s.geo) := if_pos east
      rw [first]
      by_cases west : (s.protocol.sides.get .west).decided = ((s.protocol.decideBoth s.geo).sides.get .west).decided
      · rw [State.triggerIfDecided, if_pos (by exact west)]
        exact .of_same (snapshot_of_same rfl rfl fun x => by cases x; exacts [east.symm, west.symm]) rfl
      · rw [State.triggerIfDecided, if_neg (by exact west)]
        exact .of_trigger id
    · have first : (s.setProtocol (s.protocol.decideBoth s.geo)).triggerIfDecided s.protocol .east =
        (s.setProtocol (s.protocol.decideBoth s.geo)).trigger := if_neg east
      rw [first]
      refine .trans (t := (s.setProtocol (s.protocol.decideBoth s.geo)).trigger) (.of_trigger id) ?_
      exact .ite (.refl _) (trigger_hands _)
  exact (decided.trans (writeChoice_hands _ .east)).trans (writeChoice_hands _ .west)

theorem setProtocol_hands (s : State) {u : SwitchUnit}
    (decided : ∀ x, (u.sides.get x).decided = (s.protocol.sides.get x).decided) : Hands s (s.setProtocol u) :=
  .of_same (snapshot_of_same rfl rfl decided) rfl

theorem switchTakesDerivation_hands (s : State) : Hands s s.switchTakesDerivation := by
  rw [switchTakesDerivation_eq]
  refine (setProtocol_hands s fun x => ?_).trans (closeSwitch_hands _)
  cases x <;> rfl

theorem switchTakesStanding_hands (s : State) (x : Side) : Hands s (s.switchTakesStanding x) := by
  rw [switchTakesStanding_eq]
  refine (setProtocol_hands s fun y => ?_).trans (closeSwitch_hands _)
  cases x <;> cases y <;> rfl

theorem startAnswers_hands (s : State) : Hands s s.startAnswers := by
  have started (d : SwitchSide) (expiry : Nat) : (d.startAnswer expiry).decided = d.decided := by
    unfold SwitchSide.startAnswer
    split_ifs <;> rfl
  refine setProtocol_hands s fun y => ?_
  dsimp only
  rw [Pair.get_each, started]

theorem switchTakesCompletion_hands (s : State) (decided : Pair SideState) :
    Hands s (s.switchTakesCompletion decided) := by
  rw [switchTakesCompletion_eq]
  refine ((setProtocol_hands s fun y => ?_).trans (closeSwitch_hands _)).trans (startAnswers_hands _)
  cases y <;> rfl

/-! ### The Request Unit (R88) -/

theorem setRequests_snapshot {u : RequestUnit} (quiet : s.requests.concernsPlan u = false) :
    (s.setRequests u).snapshot = s.snapshot := by
  simp only [RequestUnit.concernsPlan, Bool.or_eq_false_iff, bne_eq_false_iff_eq] at quiet
  obtain ⟨served, dark⟩ := quiet
  unfold State.snapshot
  rw [served, dark]
  rfl

/-- A derivation is handed to the Plan Engine where it concerns it, in either order. -/
theorem setRequests_handOn_hands (s : State) (u : RequestUnit) : Hands s ((s.setRequests u).handOn s.requests) := by
  unfold State.handOn
  split
  next quiet _ => exact .of_same (setRequests_snapshot quiet) rfl
  next => exact .of_trigger (t := s.setRequests u) id
  next quiet _ =>
    exact Hands.trans (t := s.setRequests u) (.of_same (setRequests_snapshot quiet) rfl) (switchTakesDerivation_hands _)
  next =>
    split_ifs
    · exact Hands.trans (.of_trigger (t := (s.setRequests u).dropOrder) id) (switchTakesDerivation_hands _)
    · exact .of_trigger (switchTakesDerivation_hands (s.setRequests u).dropOrder).counted

theorem deriveFrom_hands (s : State) (sides : Pair LocalRequest) : Hands s (s.deriveFrom sides) :=
  setRequests_handOn_hands s _

theorem changeLocal_hands (s : State) (x : Side) (l : LocalRequest) : Hands s (s.changeLocal x l) := deriveFrom_hands s _

theorem requestTakesLevel_hands (s : State) (x : Side) (level : Level) : Hands s (s.requestTakesLevel x level) := by
  unfold State.requestTakesLevel
  cases level with
  | clear => exact .ite (changeLocal_hands s x _) (changeLocal_hands s x _)
  | dim => exact changeLocal_hands s x _
  | dark => exact changeLocal_hands s x _

/-! ### Lines, links and events -/

theorem setMonitor_declare_hands (s : State) (x : Side) (m : Monitor) (old : Level) :
    Hands s ((s.setMonitor x m).declare x old) :=
  Hands.trans (t := s.setMonitor x m) (.of_same rfl rfl) (.ite (.refl _) (requestTakesLevel_hands _ _ _))

theorem formRaw_hands (s : State) (x : Side) : Hands s (s.formRaw x) :=
  .ite (.refl _) (setMonitor_declare_hands s x _ _)

theorem takesStanding_hands (x : Side) (linkChanged : Bool) (s : State) (t : Taker) :
    Hands s (s.takesStanding x linkChanged t) := by
  cases t with
  | switchUnit => exact switchTakesStanding_hands s x
  | requestUnit => exact deriveFrom_hands s _
  | lineMonitor => exact .ite (formRaw_hands s x) (.refl s)

theorem handStanding_hands (s : State) (x : Side) (linkChanged : Bool) : Hands s (s.handStanding x linkChanged) :=
  handStanding_keeps (P := Hands s) (fun u t before => before.trans (takesStanding_hands x linkChanged u t))
    (.of_same rfl rfl)

theorem eachSide_formRaw_hands (s : State) : Hands s (s.eachSide fun x t => t.formRaw x) := by
  have both (x y : Side) : Hands s ((s.dropOrder.formRaw x).formRaw y) :=
    Hands.trans (t := s.dropOrder) (.of_same rfl rfl) ((formRaw_hands _ x).trans (formRaw_hands _ y))
  exact .ite (both _ _) (both _ _)

theorem receive_hands (s : State) (x : Side) (frame : List Byte) : Hands s (s.receive x frame) := by
  unfold State.receive
  split_ifs
  · exact .refl s
  · split
    · exact .of_same rfl rfl
    · exact .of_same rfl rfl
    · exact .ite (Hands.trans (t := s.setPort x _) (.of_same rfl rfl) (handStanding_hands _ _ _)) (.of_same rfl rfl)

theorem linkExpires_hands (s : State) (x : Side) : Hands s (s.linkExpires x) := by
  refine .ite ?_ (.refl s)
  exact Hands.trans (t := (s.setPort x _).report _ _ _) (.of_same rfl rfl) (handStanding_hands _ _ _)

theorem answerExpires_hands (s : State) (x : Side) : Hands s (s.answerExpires x) := by
  unfold State.answerExpires
  dsimp only
  split_ifs
  · refine Hands.trans ?_ (closeSwitch_hands _)
    refine .of_same (snapshot_of_same rfl rfl fun y => ?_) rfl
    cases x <;> cases y <;> rfl
  · exact .refl s

theorem takeDone_hands (s : State) (g : Nat) : Hands s (s.takeDone g) := by
  unfold State.takeDone
  split
  · exact .refl s
  · split_ifs
    · refine Hands.trans ?_ (.of_only (tryPublish_only _) (by decide))
      refine Hands.trans ?_ (switchTakesCompletion_hands _ _)
      exact .of_same rfl rfl
    · exact .refl s

/-- Every event but the completion of a sweep hands on what it changes. -/
theorem Happens.hands (event : Happens s t) : Hands s t ∨ t = s.completeSweep := by
  cases event with
  | completes => exact .inr rfl
  | receiver =>
    refine .inl (Hands.trans ?_ (formRaw_hands _ _))
    exact .of_same rfl rfl
  | freezePin => exact .inl (.of_only (takeFreezePin_only s _) (by decide))
  | period => exact .inl (.of_same rfl rfl)
  | dimExpires => exact .inl (.ite (setMonitor_declare_hands s _ _ _) (.refl s))
  | darkExpires => exact .inl (.ite (setMonitor_declare_hands s _ _ _) (.refl s))
  | soakExpires => exact .inl (.ite (setMonitor_declare_hands s _ _ _) (.refl s))
  | receives => exact .inl (receive_hands s _ _)
  | linkExpires => exact .inl (linkExpires_hands s _)
  | settleExpires => exact .inl (.ite (changeLocal_hands s _ _) (.refl s))
  | echoExpires => exact .inl (.ite (deriveFrom_hands s _) (.refl s))
  | answerExpires => exact .inl (answerExpires_hands s _)
  | done => exact .inl (takeDone_hands s _)
  | fabricExpires => exact .inl (.of_only (fabricExpires_only s) (by decide))

end Handing

end Sys2Proof.Machine
end

section
/-!
Proofs about the engine's step invariant: requests hand on what they change, and the Fabric Port publishes a waiting map as
soon as the gate and the port are open for it (sections 8.5 and 8.6).
-/

namespace Sys2Proof.Machine

section Engine

variable {s t : State}

/-! ### Requests (R12, R133, R159) -/

theorem List.set_getD_self (l : List Nat) (i : Nat) : l.set i (l.getD i 0) = l := by
  by_cases inside : i < l.length
  · rw [List.getD_eq_getElem _ _ inside, List.set_getElem_self]
  · exact List.set_eq_of_length_le (Nat.not_lt.mp inside)

theorem setDelay_hands (s : State) (span delay : Nat) : Hands s (s.setDelay span delay) := by
  unfold State.setDelay
  dsimp only
  split_ifs with same
  · refine .of_same ?_ rfl
    cases ring : s.ring with
    | none =>
      unfold State.snapshot State.geo
      simp [ring]
    | some r =>
      have geo : s.geo = r := State.geo_of_ring ring
      rw [geo] at same
      have kept : r.delays.set span (min delay maxDelay) = r.delays := same ▸ List.set_getD_self _ _
      rw [State.snapshot, State.snapshot, geo]
      change Snapshot.mk _ _ (r.delays.set span (min delay maxDelay)) _ _ = _
      rw [kept]
      rfl
  · exact .of_trigger id

theorem storeSettings_snapshot {b : SettingsBody} (same : s.changesTransit b = false) :
    (s.storeSettings b).snapshot = s.snapshot := by
  simp only [State.changesTransit, bne_eq_false_iff_eq] at same
  cases ring : s.ring with
  | none =>
    unfold State.snapshot State.geo State.storeSettings
    simp [ring]
  | some r =>
    have geo : s.geo = r := State.geo_of_ring ring
    rw [geo] at same
    unfold State.snapshot State.geo State.storeSettings
    simp [ring, same]

theorem writeSettings_hands (s : State) (b : SettingsBody) : Hands s (s.writeSettings b) := by
  have triggered : Hands s (if s.changesTransit b then (s.storeSettings b).trigger else s.storeSettings b) := by
    split_ifs with changes
    · exact .of_trigger id
    · exact .of_same (storeSettings_snapshot (by simpa using changes)) rfl
  exact .ite triggered (triggered.trans (eachSide_formRaw_hands _))

theorem armPart_hands (s : State) : Hands s s.armPart := by
  refine .ite (.refl s) (.of_trigger fun counted => ?_)
  rw [gateFormed_only _ _ .plan (by decide)]
  exact counted

/-- Every request but a RESTART hands on what it changes. -/
theorem Served.hands {code : Byte} (served : Served code s t) : Hands s t ∨ code = 0x51#8 ∧ t = s.softRestart := by
  cases served with
  | same => exact .inl (.refl s)
  | add => exact .inl (.of_trigger id)
  | edit => exact .inl (.ite (.of_trigger id) (.of_same rfl rfl))
  | retire => exact .inl (.of_trigger id)
  | walk => exact .inl (.of_same rfl rfl)
  | delay => exact .inl (setDelay_hands s _ _)
  | operator => exact .inl (.ite (.refl s) (changeLocal_hands s _ _))
  | release => exact .inl (changeLocal_hands s _ _)
  | settings => exact .inl (writeSettings_hands s _)
  | freeze => exact .inl (.of_only (setFreezeFlag_only s _) (by decide))
  | arm => exact .inl (armPart_hands s)
  | restart named => exact .inr ⟨named, rfl⟩
  | clear => exact .inl (.of_same rfl rfl)

/-! ### The Fabric Port (R144, R145) -/

/-- The generation of the publication in flight is the last one given. -/
def FabricPort.numbered (f : FabricPort) : Prop :=
  f.generation ≤ 65535 ∧ ∀ flight ∈ f.inFlight, flight.map.generation = some f.generation ∧ 1 ≤ f.generation

/-- With the gate open a waiting map is in flight, or another is. -/
def State.published (s : State) : Prop :=
  s.gateOpen = true → s.fabric.mapPending = true → s.fabric.inFlight.isSome = true

theorem nextGeneration_bounds (g : Nat) : 1 ≤ nextGeneration g ∧ nextGeneration g ≤ 65535 := by
  unfold nextGeneration
  split_ifs <;> omega

/-- Publishing a waiting map, where gate and port are open for it, leaves the port in order. -/
theorem tryPublish_fabric (h : s.fabric.numbered) : s.tryPublish.fabric.numbered ∧ s.tryPublish.published := by
  unfold State.tryPublish
  split
  next gate flight map committed =>
    have bounds := nextGeneration_bounds s.fabric.generation
    refine ⟨⟨bounds.2, fun f mem => ?_⟩, fun _ _ => rfl⟩
    obtain rfl := Option.some.inj mem
    exact ⟨rfl, bounds.1⟩
  next still =>
    refine ⟨h, fun gate pending => ?_⟩
    cases flight : s.fabric.inFlight with
    | some f => rfl
    | none =>
      cases committed : s.fabric.committed with
      | none => simp [FabricPort.mapPending, committed] at pending
      | some m =>
        obtain ⟨map, waits⟩ := m
        have waits : waits = true := by simpa [FabricPort.mapPending, committed] using pending
        exact (still map gate flight (waits ▸ committed)).elim

theorem published_of_same (h : s.published) (gate : t.gateOpen = s.gateOpen) (fabric : t.fabric = s.fabric) :
    t.published := by
  unfold State.published
  rw [gate, fabric]
  exact h

/-- The gate formed again after a change of what forms it. -/
theorem gateFormed_fabric {before : Bool} (numbered : s.fabric.numbered)
    (held : before = true → s.fabric.mapPending = true → s.fabric.inFlight.isSome = true) :
    (s.gateFormed before).fabric.numbered ∧ (s.gateFormed before).published := by
  unfold State.gateFormed
  split_ifs with opens
  · exact tryPublish_fabric numbered
  · refine ⟨numbered, fun gate => held ?_⟩
    simpa [gate] using opens

theorem takeDone_fabric (g : Nat) (numbered : s.fabric.numbered) (published : s.published) :
    (s.takeDone g).fabric.numbered ∧ (s.takeDone g).published := by
  unfold State.takeDone
  split
  · exact ⟨numbered, published⟩
  · split_ifs
    · refine tryPublish_fabric ?_
      rw [(switchTakesCompletion_works _ _).fabric]
      exact ⟨numbered.1, fun _ mem => nomatch mem⟩
    · exact ⟨numbered, published⟩

theorem fabricExpires_fabric (numbered : s.fabric.numbered) (published : s.published) :
    s.fabricExpires.fabric.numbered ∧ s.fabricExpires.published := by
  unfold State.fabricExpires
  split
  · exact ⟨numbered, published⟩
  next flight held =>
    split_ifs
    · unfold State.timeOut
      dsimp only
      split_ifs
      · exact tryPublish_fabric ⟨numbered.1, fun _ mem => nomatch mem⟩
      · refine ⟨⟨numbered.1, fun f mem => ?_⟩, fun _ _ => rfl⟩
        obtain rfl := Option.some.inj mem
        exact numbered.2 flight held
    · exact ⟨numbered, published⟩

/-- The part with a plan committed, PLAN raised where an action changes (R111, R129). -/
def State.compared (s : State) (plan : Plan) : State :=
  if changesAction s.plan.committed plan then
    (s.setPlan { s.plan with committed := some plan }).setAttention s.attention.raisePlan
  else s.setPlan { s.plan with committed := some plan }

theorem compared_plan (s : State) (plan : Plan) : (s.compared plan).plan = { s.plan with committed := some plan } := by
  unfold State.compared
  split_ifs <;> rfl

theorem compared_only (s : State) (plan : Plan) : onlyChanges [.plan, .attention] s (s.compared plan) :=
  onlyChanges_ite (onlyChanges_chain (setPlan_only s _) (setAttention_only _ _) (by decide) (by decide))
    (onlyChanges_mono (setPlan_only s _) (by decide))

/-- The part with a sweep's plan and map committed. -/
def State.swept (s : State) (snap : Snapshot) : State := (s.compared (s.planBuilt snap)).commitMap (s.mapBuilt snap)

theorem swept_plan (s : State) (snap : Snapshot) : (s.swept snap).plan = { s.plan with committed := some (s.planBuilt snap) } :=
  (commitMap_only _ _ .plan (by decide)).trans (compared_plan s _)

theorem completeSweep_of_sweep {sweep : Sweep} (runs : s.plan.sweep = some sweep) :
    s.completeSweep =
      let counted := (s.swept sweep.snapshot).setPlan
        { (s.swept sweep.snapshot).plan with sweep := none, restarts := 0, followUp := false }
      if s.plan.followUp then counted.startSweep 0 else counted := by
  unfold State.completeSweep
  rw [runs]
  rfl

/-- The fabric port and the gate after a completion are those of its commit. -/
theorem completeSweep_fabric_eq {sweep : Sweep} (runs : s.plan.sweep = some sweep) :
    s.completeSweep.fabric = (s.swept sweep.snapshot).fabric ∧
      s.completeSweep.gateOpen = (s.swept sweep.snapshot).gateOpen := by
  rw [completeSweep_of_sweep runs]
  dsimp only
  split_ifs <;> exact ⟨rfl, rfl⟩

theorem completeSweep_fabric (numbered : s.fabric.numbered) (published : s.published) :
    s.completeSweep.fabric.numbered ∧ s.completeSweep.published := by
  cases runs : s.plan.sweep with
  | none =>
    have still : s.completeSweep = s := by
      unfold State.completeSweep
      rw [runs]
    exact still.symm ▸ ⟨numbered, published⟩
  | some sweep =>
    obtain ⟨fabric, gate⟩ := completeSweep_fabric_eq runs
    have same : (s.compared (s.planBuilt sweep.snapshot)).fabric = s.fabric := compared_only s _ .fabric (by decide)
    have committed : (s.swept sweep.snapshot).fabric.numbered ∧ (s.swept sweep.snapshot).published := by
      refine tryPublish_fabric ?_
      rw [State.setFabric_fabric, same]
      exact numbered
    refine ⟨fabric ▸ committed.1, published_of_same committed.2 gate fabric⟩

/-! ### The invariant -/

theorem engineSound_iff : EngineSound s ↔ s.plan.counted ∧ s.sweepsPresent ∧ s.fabric.numbered ∧ s.published := by
  unfold EngineSound PlanEngine.counted State.sweepsPresent FabricPort.numbered State.published
  constructor
  · rintro ⟨low, idle, due, present, bound, flight, gate⟩
    exact ⟨⟨low, idle, due⟩, present, ⟨bound, flight⟩, gate⟩
  · rintro ⟨⟨low, idle, due⟩, present, ⟨bound, flight⟩, gate⟩
    exact ⟨low, idle, due, present, bound, flight, gate⟩

theorem Hands.present (hands : Hands s t) (counted : s.plan.counted) (present : s.sweepsPresent) : t.sweepsPresent := by
  obtain ⟨snapshot, plan⟩ | told := hands.told
  · unfold State.sweepsPresent at *
    rw [snapshot, plan]
    exact present
  · exact (told counted).1

theorem sweepsPresent_of_idle (idle : s.plan.sweep = none) : s.sweepsPresent := by
  intro sweep runs
  rw [idle] at runs
  cases runs

theorem PlanEngine.idle_counted : PlanEngine.idle.counted :=
  ⟨Nat.zero_le _, fun _ => rfl, (nomatch ·)⟩

theorem completeSweep_engine (counted : s.plan.counted) (present : s.sweepsPresent) :
    s.completeSweep.plan.counted ∧ s.completeSweep.sweepsPresent := by
  cases runs : s.plan.sweep with
  | none =>
    have still : s.completeSweep = s := by
      unfold State.completeSweep
      rw [runs]
    exact still.symm ▸ ⟨counted, present⟩
  | some sweep =>
    rw [completeSweep_of_sweep runs]
    dsimp only
    split_ifs
    · refine ⟨⟨Nat.zero_le _, (nomatch ·), (nomatch ·)⟩, fun started held _ => ?_⟩
      exact Option.some.inj held ▸ rfl
    · exact ⟨⟨Nat.zero_le _, fun _ => rfl, (nomatch ·)⟩, sweepsPresent_of_idle rfl⟩

/-- Work that touches neither the fabric port nor what forms the gate. -/
theorem fabric_of_only {bs : List Block} (only : onlyChanges bs s t) (apart : ∀ b ∈ bs, b ∉ [Block.loader, .pins, .fabric])
    (numbered : s.fabric.numbered) (published : s.published) : t.fabric.numbered ∧ t.published := by
  have kept (b : Block) (held : b ∈ [Block.loader, .pins, .fabric]) : sameBlock s t b :=
    only b fun touched => apart b touched held
  have fabric : t.fabric = s.fabric := kept .fabric (by decide)
  have loader : t.loader = s.loader := kept .loader (by decide)
  have pins : t.pins = s.pins := kept .pins (by decide)
  refine ⟨fabric ▸ numbered, published_of_same published ?_ fabric⟩
  rw [State.gateOpen, State.frozen, loader, pins, fabric]
  rfl

theorem Happens.engineSound (event : Happens s t) (h : EngineSound s) : EngineSound t := by
  obtain ⟨counted, present, numbered, published⟩ := engineSound_iff.mp h
  have engine : t.plan.counted ∧ t.sweepsPresent := by
    obtain hands | rfl := event.hands
    · exact ⟨hands.counted counted, hands.present counted present⟩
    · exact completeSweep_engine counted present
  have fabric : t.fabric.numbered ∧ t.published := by
    cases event with
    | completes => exact completeSweep_fabric numbered published
    | @receiver x r =>
      have only := formRaw_only (s.setPins (s.pins.withReceiver x r)) x
      exact fabric_of_only only (by decide) (s := s.setPins (s.pins.withReceiver x r)) numbered published
    | freezePin => exact gateFormed_fabric numbered published
    | period => exact ⟨numbered, published⟩
    | dimExpires => exact fabric_of_only (dimExpires_only s _) (by decide) numbered published
    | darkExpires => exact fabric_of_only (darkExpires_only s _) (by decide) numbered published
    | soakExpires => exact fabric_of_only (soakExpires_only s _) (by decide) numbered published
    | receives => exact fabric_of_only (receive_only s _ _) (by decide) numbered published
    | linkExpires => exact fabric_of_only (linkExpires_only s _) (by decide) numbered published
    | settleExpires => exact fabric_of_only (settleExpires_only s _) (by decide) numbered published
    | echoExpires => exact fabric_of_only (echoExpires_only s _) (by decide) numbered published
    | answerExpires => exact fabric_of_only (answerExpires_only s _) (by decide) numbered published
    | done => exact takeDone_fabric _ numbered published
    | fabricExpires => exact fabricExpires_fabric numbered published
  exact engineSound_iff.mpr ⟨engine.1, engine.2, fabric⟩

theorem armPart_fabric (numbered : s.fabric.numbered) (published : s.published) :
    s.armPart.fabric.numbered ∧ s.armPart.published := by
  unfold State.armPart
  split_ifs
  · exact ⟨numbered, published⟩
  · obtain ⟨formed, waits⟩ := gateFormed_fabric (s := s.setLoader { s.loader with armed := true }) (before := s.gateOpen)
      numbered published
    exact fabric_of_only (trigger_only _) (by decide) formed waits

/-- After a RESTART no map is held (R183). -/
theorem softRestart_fabric_eq (s : State) : s.softRestart.fabric = s.fabric.restarted := by
  unfold State.softRestart
  split_ifs
  · exact startBlocks_only _ .fabric (by decide)
  · rfl

theorem softRestart_fabric (numbered : s.fabric.numbered) : s.softRestart.fabric.numbered ∧ s.softRestart.published := by
  unfold State.published
  rw [softRestart_fabric_eq]
  exact ⟨⟨numbered.1, fun _ mem => nomatch mem⟩, fun _ pending => nomatch pending⟩

/-- The held blocks start with an idle engine, and hand on what the first raw levels change. -/
theorem startBlocks_engine (idle : s.plan = PlanEngine.idle) :
    s.startBlocks.plan.counted ∧ s.startBlocks.sweepsPresent := by
  have hands : Hands s.freshBlocks s.startBlocks := eachSide_formRaw_hands _
  have counted : s.freshBlocks.plan.counted := by
    change s.plan.counted
    exact idle ▸ PlanEngine.idle_counted
  have present : s.freshBlocks.sweepsPresent := sweepsPresent_of_idle (by change s.plan.sweep = none; rw [idle]; rfl)
  exact ⟨hands.counted counted, hands.present counted present⟩

theorem softRestart_engine (s : State) : s.softRestart.plan.counted ∧ s.softRestart.sweepsPresent := by
  unfold State.softRestart
  split_ifs
  · exact startBlocks_engine rfl
  · exact ⟨PlanEngine.idle_counted, sweepsPresent_of_idle rfl⟩

theorem Served.engineSound {code : Byte} (served : Served code s t) (h : EngineSound s) : EngineSound t := by
  obtain ⟨counted, present, numbered, published⟩ := engineSound_iff.mp h
  obtain hands | ⟨-, rfl⟩ := served.hands
  · have fabric : t.fabric.numbered ∧ t.published := by
      cases served with
      | same => exact ⟨numbered, published⟩
      | add => exact fabric_of_only (addCircuit_only s _) (by decide) numbered published
      | edit => exact fabric_of_only (editCircuit_only s _ _) (by decide) numbered published
      | retire => exact fabric_of_only (retireCircuit_only s _) (by decide) numbered published
      | walk => exact ⟨numbered, published⟩
      | delay => exact fabric_of_only (setDelay_only s _ _) (by decide) numbered published
      | operator => exact fabric_of_only (setOperator_only s _ _) (by decide) numbered published
      | release => exact fabric_of_only (changeLocal_only s _ _) (by decide) numbered published
      | settings => exact fabric_of_only (writeSettings_only s _) (by decide) numbered published
      | freeze => exact gateFormed_fabric numbered published
      | arm => exact armPart_fabric numbered published
      | restart => exact softRestart_fabric numbered
      | clear => exact ⟨numbered, published⟩
    exact engineSound_iff.mpr ⟨hands.counted counted, hands.present counted present, fabric⟩
  · obtain ⟨counted, present⟩ := softRestart_engine s
    exact engineSound_iff.mpr ⟨counted, present, softRestart_fabric numbered⟩

theorem Does.engineSound {c : Instr} (does : Does c s t) (held : BlocksHeld s) (h : EngineSound s) : EngineSound t := by
  obtain ⟨counted, present, numbered, published⟩ := engineSound_iff.mp h
  have empty {u : State} (out : s.loader.load ≠ .loaded) (fabric : u.fabric = s.fabric) :
      u.fabric.numbered ∧ u.published := by
    obtain ⟨-, -, -, -, committed, -, -⟩ := held out
    unfold State.published FabricPort.mapPending
    rw [fabric, committed]
    exact ⟨numbered, fun _ pending => nomatch pending⟩
  have unloaded {u : State} (out : s.loader.load ≠ .loaded) (plan : u.plan = s.plan) (fabric : u.fabric = s.fabric) :
      EngineSound u := by
    obtain ⟨-, -, -, idle, -⟩ := held out
    refine engineSound_iff.mpr ⟨plan ▸ counted, sweepsPresent_of_idle ?_, empty out fabric⟩
    rw [plan, idle]
    rfl
  cases does with
  | idle => exact h
  | reset =>
    refine engineSound_iff.mpr ⟨PlanEngine.idle_counted, sweepsPresent_of_idle rfl, ⟨Nat.zero_le _, ?_⟩, ?_⟩
    · exact fun _ mem => nomatch mem
    · exact fun _ pending => nomatch pending
  | release held =>
    have only := releaseReset_only s
    exact unloaded (by simp [held]) (only .plan (by decide)) (only .fabric (by decide))
  | @imageByte value loading =>
    have only := takeImageByte_only s value
    exact unloaded (by simp [loading]) (only .plan (by decide)) (only .fabric (by decide))
  | loadFails busy =>
    refine unloaded ?_ rfl rfl
    obtain loading | checking := busy
    · simp [loading]
    · simp [checking]
  | loads checking =>
    have out : s.loader.load ≠ .loaded := by simp [checking]
    obtain ⟨-, -, -, idle, -⟩ := held out
    obtain ⟨counts, presents⟩ := startBlocks_engine (s := s.imageTaken) idle
    exact engineSound_iff.mpr ⟨counts, presents, empty out (startBlocks_only s.imageTaken .fabric (by decide))⟩
  | happens event => exact event.engineSound h
  | @notReady mdi =>
    have hands : Hands s (s.notReadyWindow mdi) := .of_only (notReadyWindow_only s mdi) (by decide)
    exact engineSound_iff.mpr ⟨hands.counted counted, hands.present counted present,
      fabric_of_only (notReadyWindow_only s mdi) (by decide) numbered published⟩
  | shows => exact h
  | corrupt => exact h
  | unknown => exact h
  | serves _ _ served => exact served.engineSound (s := s.deliver _) h

/-- Where a LOADED part stays LOADED and no RESTART is carried, whatever changes of what a sweep reads is told. -/
theorem Does.told {c : Instr} (does : Does c s t) (before : s.loader.load = .loaded) (after : t.loader.load = .loaded)
    (plain : ¬carriesRestart c) (counted : s.plan.counted) :
    (t.snapshot = s.snapshot ∨ t.plan.sweep.isSome = true) := by
  have tell {u v : State} (hands : Hands u v) (same : u.plan = s.plan) (snapshot : u.snapshot = s.snapshot) :
      v.snapshot = s.snapshot ∨ v.plan.sweep.isSome = true := by
    obtain ⟨equal, -⟩ | told := hands.told
    · exact .inl (equal.trans snapshot)
    · exact .inr (told (same ▸ counted)).2
  cases does with
  | idle => exact .inl rfl
  | reset => cases after
  | release held => simp [held] at before
  | imageByte loading => simp [loading] at before
  | loadFails => cases after
  | loads checking => simp [checking] at before
  | happens event =>
    obtain hands | rfl := event.hands
    · exact tell hands rfl rfl
    · exact .inl (snapshot_of_only (completeSweep_only s) (by decide))
  | notReady => exact .inl (snapshot_of_only (notReadyWindow_only s _) (by decide))
  | shows => exact .inl rfl
  | corrupt => exact .inl rfl
  | unknown => exact .inl rfl
  | @serves i code u a rdy named served =>
    obtain hands | ⟨restart, -⟩ := served.hands
    · exact tell (u := s.deliver i) (v := u) hands rfl rfl
    · exact absurd (named restart) plain

end Engine

/-- What a sweep reads has not changed where its snapshot would be the same. -/
theorem snapshot_parts {s t : State} (same : t.snapshot = s.snapshot) :
    t.requests.served = s.requests.served ∧ knownDark t.requests.records = knownDark s.requests.records ∧
      ∀ x, (t.protocol.sides.get x).decided = (s.protocol.sides.get x).decided := by
  refine ⟨congrArg Snapshot.served same, congrArg Snapshot.knownDark same, fun x => ?_⟩
  have decided := congrArg Snapshot.decided same
  cases x
  · exact congrArg Pair.east decided
  · exact congrArg Pair.west decided

/-- Settles O58: every change of what a sweep reads is followed by a trigger inside its event, and the fabric port tries to
publish wherever gate, port or map come to allow it. -/
theorem engineStaysSound : Obligations.EngineStaysSound := by
  unfold Obligations.EngineStaysSound
  intro s t held sound run
  unfold step at run
  split at run
  next =>
    cases run
    refine ⟨sound, fun _ _ _ changed => ?_⟩
    obtain served | dark | ⟨x, decided⟩ := changed
    · exact absurd rfl served
    · exact absurd rfl dark
    · exact absurd rfl decided
  next c rest pending =>
    obtain ⟨u, hu, does⟩ := exec_does c (s.setPending rest)
    obtain rfl : u = t := by
      cases hu.symm.trans run
      rfl
    have engine : EngineSound u := does.engineSound held sound
    refine ⟨engine, fun before after plain changed => ?_⟩
    obtain ⟨-, present, -, -⟩ := engineSound_iff.mp engine
    have runs : u.plan.sweep.isSome = true := by
      refine (does.told before after (plain c rest pending) (engineSound_iff.mp sound).1).resolve_left fun same => ?_
      obtain ⟨served, dark, decided⟩ := snapshot_parts (s := s.setPending rest) same
      obtain h | h | ⟨x, h⟩ := changed
      · exact h served
      · exact h dark
      · exact h (decided x)
    obtain ⟨sweep, started⟩ := Option.isSome_iff_exists.mp runs
    refine ⟨sweep, started, ?_⟩
    cases follow : u.plan.followUp with
    | true => exact .inl rfl
    | false => exact .inr (present sweep started follow)

end Sys2Proof.Machine
end

section
/-!
Proofs about the exchange on the management port (chapter 9): windows without a request, bad frames and undefined codes, the
fault records, and the lookups that change nothing.
-/

namespace Sys2Proof.Machine

section Port

variable {s : State}

/-- Out of reset a command has its effect (R185). -/
theorem exec_of_live {i : Instr} (out : s.loader.load ≠ .noLoad) (effect : State → State) (run : exec i s = s.live effect) :
    exec i s = .next (effect s) := by
  have inReset : s.inReset = false := by simp [State.inReset, out]
  rw [run, State.live, inReset]
  rfl

/-- A request that is taken in every load state is answered as its service says (R156). -/
theorem answers_of_taken {i : Instr} {u : State} {bs : List Block} {code : Byte} {body : List Byte} {service : Service}
    {r : Reply} {answer : State → List Byte} {effect : State → Prop} (ready : portReady s)
    (run : exec i s = s.live fun t => t.request i code body service) (fits : body.length ≤ longestBody)
    (taken : takenUnloaded code body = true) (serve : service body (s.deliver i) = (u, r))
    (only : onlyChanges bs (s.deliver i) u) (port : u.mgmt = (s.deliver i).mgmt)
    (told : r.body = answer (u.answer code r)) (done : effect (u.answer code r)) :
    Answers i s bs code r.code answer effect := by
  obtain ⟨out, rdy⟩ := ready
  have unlocked : s.locks code body = false := by simp [State.locks, taken]
  exact answers_of_service run out rdy fits unlocked serve only port told done

theorem answersOnly_of_taken {i : Instr} {code : Byte} {body : List Byte} {service : Service} {r : Reply}
    (ready : portReady s) (run : exec i s = s.live fun t => t.request i code body service)
    (fits : body.length ≤ longestBody) (taken : takenUnloaded code body = true)
    (serve : service body (s.deliver i) = (s.deliver i, r)) : AnswersOnly i s code r.code r.body :=
  answers_of_taken ready run fits taken serve (onlyChanges_refl _ _) rfl rfl trivial

/-- A request of a LOADED part is answered as its service says. -/
theorem answers_of_loaded {i : Instr} {u : State} {bs : List Block} {code : Byte} {body : List Byte} {service : Service}
    {r : Reply} {answer : State → List Byte} {effect : State → Prop} (ready : hostReady s)
    (run : exec i s = s.live fun t => t.request i code body service) (fits : body.length ≤ longestBody)
    (serve : service body (s.deliver i) = (u, r)) (only : onlyChanges bs (s.deliver i) u)
    (port : u.mgmt = (s.deliver i).mgmt) (told : r.body = answer (u.answer code r)) (done : effect (u.answer code r)) :
    Answers i s bs code r.code answer effect := by
  obtain ⟨loaded, rdy⟩ := ready
  exact answers_of_service run (by simp [loaded]) rdy fits (locks_of_loaded loaded code body) serve only port told done

/-! ### Windows (R152, R154) -/

theorem windowEmpty_iff (mdi : List Byte) : windowEmpty mdi = true ↔ mdi = [] ∨ ∃ rest, mdi = 0xFF#8 :: rest := by
  cases mdi with
  | nil => simp [windowEmpty]
  | cons first rest => simp [windowEmpty]

theorem notReadyWindow_of_empty {mdi : List Byte} (empty : windowEmpty mdi = true) :
    s.notReadyWindow mdi = s.setMgmt { s.mgmt with mdo := some Answer.filler } := if_pos empty

theorem notReadyWindow_of_request {mdi : List Byte} (request : windowEmpty mdi = false) :
    s.notReadyWindow mdi =
      (s.setMgmt { s.mgmt with mdo := some Answer.filler }).report .mgmt .overrun (mdi.headD 0).toNat :=
  if_neg (by simp [request])

end Port

/-- Settles O50: a not-ready window shows the filler and reports a request it loses; an empty window of a ready port shows the
answer slot. -/
theorem windowsWithoutRequest : Obligations.WindowsWithoutRequest := by
  unfold Obligations.WindowsWithoutRequest
  refine ⟨fun s mdi out => ?_, fun s out => ?_⟩
  · refine ⟨s.notReadyWindow mdi, exec_of_live out (fun t => t.notReadyWindow mdi) rfl, notReadyWindow_only s mdi, ?_, ?_, ?_⟩
    · cases empty : windowEmpty mdi with
      | true => rw [notReadyWindow_of_empty empty]; rfl
      | false => rw [notReadyWindow_of_request empty]; rfl
    · rintro first rest rfl given
      rw [notReadyWindow_of_request (by simpa [windowEmpty] using given)]
      rfl
    · intro empty
      rw [notReadyWindow_of_empty ((windowEmpty_iff mdi).mpr empty)]
      rfl
  · refine ⟨_, exec_of_live out (fun t => if t.mgmt.rdy then t.showAnswer else t.notReadyWindow []) rfl, ?_, ?_⟩
    · exact onlyChanges_ite (showAnswer_only s) (setMgmt_only s _)
    · by_cases rdy : s.mgmt.rdy = true
      · rw [if_pos rdy, if_pos rdy]
        rfl
      · rw [if_neg rdy, if_neg rdy]
        rfl

/-! ### Bad frames and undefined codes (R155, R156) -/

/-- A frame that R155 names is bad. -/
theorem frameBad_of (code : Byte) (rest : List Byte) (bits : Nat)
    (bad : rest = [] ∨ 40 < (rest.headD 0).toNat ∨ rest.length < (rest.headD 0).toNat + 2 ∨ bits ≠ 0 ∨
      (∃ b ∈ rest.drop ((rest.headD 0).toNat + 2), b ≠ 0xFF#8) ∨
      rest.getD ((rest.headD 0).toNat + 1) 0 ≠ crc8 (code :: rest.take ((rest.headD 0).toNat + 1))) :
    frameBad (code :: rest) bits = true := by
  cases rest with
  | nil => rfl
  | cons len tail =>
    simp only [List.headD_cons, List.length_cons, List.drop_succ_cons, List.take_succ_cons, List.getD_cons_succ] at bad
    simp only [frameBad, longestBody, Bool.or_eq_true, decide_eq_true_eq, List.any_eq_true, bne_iff_ne]
    obtain empty | long | short | partly | ⟨b, mem, fill⟩ | check := bad
    · cases empty
    · exact .inl (.inl (.inl (.inl (decide_eq_true long))))
    · exact .inl (.inl (.inr (by omega)))
    · exact .inl (.inl (.inl (.inr partly)))
    · exact .inl (.inr ⟨b, mem, fill⟩)
    · exact .inr check

theorem serviceOf_eq_none {code : Byte}
    (undefined : code.toNat ∉
      [0x01, 0x10, 0x11, 0x12, 0x13, 0x14, 0x15, 0x20, 0x21, 0x30, 0x40, 0x41, 0x42, 0x50, 0x51, 0x60, 0x61]) :
    serviceOf code = none := by
  unfold serviceOf
  split <;> simp_all

/-- Settles O49: R155's conditions make a frame bad, and a code without a service is answered UNKNOWN. -/
theorem badFrameAndUnknownCode : Obligations.BadFrameAndUnknownCode := by
  unfold Obligations.BadFrameAndUnknownCode
  rintro s ⟨out, rdy⟩
  refine ⟨fun code rest bits some _ bad => ?_, fun code body undefined some fits => ?_⟩
  · have run : exec (.badFrame (code :: rest) bits) s = .next (s.corruptFrame (.badFrame (code :: rest) bits)) := by
      refine (exec_of_live out (fun t => t.takeWindow (.badFrame (code :: rest) bits) (code :: rest) bits) rfl).trans
        (congrArg _ ?_)
      have given : windowEmpty (code :: rest) = false := by simpa [windowEmpty] using some
      simp only [State.takeWindow, rdy, given, frameBad_of code rest bits bad]
      rfl
    exact ⟨_, run, corruptFrame_only s _, rfl, rfl⟩
  · have run : exec (.unknownRequest code body) s = .next
        (((s.deliver (.unknownRequest code body)).report .mgmt .unknownRequest code.toNat).answer code
          (Reply.plain .unknown)) := by
      refine (exec_of_live out (fun t =>
        if windowEmpty [code] && t.mgmt.rdy then t.showAnswer
        else if windowEmpty [code] then t.notReadyWindow []
        else t.takeFrame (.unknownRequest code body) code body) rfl).trans (congrArg _ ?_)
      have given : windowEmpty [code] = false := by simpa [windowEmpty] using some
      have short : ¬longestBody < body.length := Nat.not_lt.mpr fits
      simp only [given, State.takeFrame, serviceOf_eq_none undefined, State.unknownCode, rdy, short]
      rfl
    refine ⟨_, run, ?_, rfl, rfl⟩
    exact onlyChanges_chain (onlyChanges_chain (deliver_only s _) (report_only _ _ _ _) (cs := [.mgmt, .attention])
      (by decide) (by decide)) (answer_only _ _ _) (by decide) (by decide)

/-! ### Fault records (R175, R176) -/

theorem groupOfByte_eq (b : Byte) :
    groupOfByte b = [FaultGroup.linkE, .linkW, .protocol, .fabric, .mgmt, .load][b.toNat]? := by
  unfold groupOfByte
  split
  all_goals simp_all
  omega

theorem groupOfByte_eq_none {b : Byte} (h : 5 < b.toNat) : groupOfByte b = none := by
  rw [groupOfByte_eq]
  exact List.getElem?_eq_none h

theorem clearGroup_clears (a : Attention) (g : FaultGroup) :
    (a.clearGroup g).records.ofGroup g = none ∧ (a.clearGroup g).causes.ofGroup g = false ∧
      (a.clearGroup g).causes.plan = a.causes.plan ∧
      ∀ h : FaultGroup, h ≠ g → (a.clearGroup g).records.ofGroup h = a.records.ofGroup h ∧
        (a.clearGroup g).causes.ofGroup h = a.causes.ofGroup h := by
  unfold Attention.clearGroup
  dsimp only
  refine ⟨?_, ?_, Causes.setGroup_plan _ _ _, fun h ne => ⟨?_, ?_⟩⟩
  · rw [FaultRecords.ofGroup_setGroup, if_pos rfl]
  · rw [Causes.ofGroup_setGroup, if_pos rfl]
  · rw [FaultRecords.ofGroup_setGroup, if_neg ne]
  · rw [Causes.ofGroup_setGroup, if_neg ne]

/-- What FAULT-CLEAR clears (R176). -/
theorem cleared_of_le {a : Attention} {what : Byte} (le : what.toNat ≤ 7) :
    ∃ b, a.cleared what = some b ∧ b.masks = a.masks ∧
      (∀ g, [FaultGroup.linkE, .linkW, .protocol, .fabric, .mgmt, .load][what.toNat]? = some g → b = a.clearGroup g) ∧
      (what.toNat = 6 → b = a.clearPlan) ∧ (what.toNat = 7 → b = a.clearAll) := by
  unfold Attention.cleared
  rw [groupOfByte_eq]
  cases group : [FaultGroup.linkE, .linkW, .protocol, .fabric, .mgmt, .load][what.toNat]? with
  | some g =>
    have small : what.toNat < 6 := (List.getElem?_eq_some_iff.mp group).1
    exact ⟨_, rfl, rfl, fun h same => Option.some.inj same ▸ rfl, by omega, by omega⟩
  | none =>
    have large : 6 ≤ what.toNat := List.getElem?_eq_none_iff.mp group
    obtain six | seven : what.toNat = 6 ∨ what.toNat = 7 := by omega
    · exact ⟨a.clearPlan, by simp [six], rfl, (nomatch ·, ·), fun _ => rfl, by omega⟩
    · exact ⟨a.clearAll, by simp [seven], rfl, (nomatch ·, ·), by omega, fun _ => rfl⟩

theorem byteOf_flagBit (b : Bool) : byteOf (flagBit b 1) = if b then 1 else 0 := by cases b <;> rfl

/-- Settles O52: each value of the two requests names a group, PLAN or ALL, or is INVALID. -/
theorem faultReadAndClear : Obligations.FaultReadAndClear := by
  unfold Obligations.FaultReadAndClear
  refine ⟨fun s group ready => ⟨fun large => ?_, fun g named => ?_⟩, fun s what ready => ⟨fun large => ?_, fun small => ?_⟩⟩
  · refine answersOnly_of_taken ready rfl (service := serveFaultRead) (r := Reply.invalid .value) (by simp [longestBody]) rfl ?_
    simp [serveFaultRead, groupOfByte_eq_none large]
  · have told := answersOnly_of_taken (i := .faultRead [group]) ready rfl (service := serveFaultRead) (by simp [longestBody])
      rfl       (r := Reply.done ([group, byteOf (((s.attention.records.ofGroup g).map (·.kind.code)).getD 0)] ++
        wordBytes (((s.attention.records.ofGroup g).map (·.detail)).getD 0) ++
        [byteOf (flagBit s.attention.moreFaults 1)])) (by
          rw [← groupOfByte_eq] at named
          simp only [serveFaultRead, named]
          rfl)
    rw [byteOf_flagBit] at told
    cases record : s.attention.records.ofGroup g with
    | none =>
      rw [record] at told
      exact told
    | some f =>
      rw [record] at told
      exact told
  · refine answersOnly_of_taken ready rfl (service := serveFaultClear) (r := Reply.invalid .value) (by simp [longestBody])
      rfl ?_
    have unknown : (s.deliver (.faultClear [what])).attention.cleared what = none := by
      change s.attention.cleared what = none
      rw [Attention.cleared, groupOfByte_eq_none (by omega)]
      simp only
      rw [if_neg (by omega), if_neg (by omega)]
    simp only [serveFaultClear, unknown]
  · obtain ⟨b, cleared, masks, group, plan, all⟩ := cleared_of_le (a := s.attention) small
    refine answers_of_taken (u := (s.deliver (.faultClear [what])).setAttention b)
      (r := Reply.done [byteOf b.causes.toNat, byteOf (flagBit b.moreFaults 1)]) (service := serveFaultClear) ready rfl
      (by simp [longestBody]) rfl ?_ (setAttention_only _ _) rfl ?_ ⟨masks, fun g named => ?_, fun six => ?_, fun seven => ?_⟩
    · simp only [serveFaultClear, show (s.deliver (.faultClear [what])).attention.cleared what = some b from cleared]
    · rw [byteOf_flagBit]
      rfl
    · change b.records.ofGroup g = none ∧ b.causes.ofGroup g = false ∧ b.causes.plan = s.attention.causes.plan ∧
        b.moreFaults = s.attention.moreFaults ∧ ∀ h : FaultGroup, h ≠ g →
          b.records.ofGroup h = s.attention.records.ofGroup h ∧ b.causes.ofGroup h = s.attention.causes.ofGroup h
      rw [group g named]
      obtain ⟨record, cause, kept, others⟩ := clearGroup_clears s.attention g
      exact ⟨record, cause, kept, rfl, others⟩
    · exact plan six
    · change (∀ g : FaultGroup, b.records.ofGroup g = none ∧ b.causes.ofGroup g = false) ∧ b.causes.plan = false ∧
        b.moreFaults = false
      rw [all seven]
      exact ⟨fun g => by cases g <;> exact ⟨rfl, rfl⟩, rfl, rfl⟩

end Sys2Proof.Machine
end

section
/-!
Proofs about the management requests on spans, settings and gates (chapters 1, 8 and 9): SPAN-READ, SPAN-DELAY, the settings,
FREEZE and ARM, and bodies that are refused before they are read.
-/

namespace Sys2Proof.Machine

section Requests

variable {s : State}

/-! ### SPAN-READ and SPAN-DELAY (R12, R15) -/

theorem style_bit (m : MapStyle) : m.code * 8 = if m = .crossed then 8 else 0 := by cases m <;> rfl

/-- Settles O15: the answer is the span's static part and the record held for it. -/
theorem spanReadAnswersSpan : Obligations.SpanReadAnswersSpan := by
  unfold Obligations.SpanReadAnswersSpan
  intro s r west ready ring
  have geo (i : Instr) : (s.deliver i).geo = r := State.geo_of_ring ring
  refine ⟨fun unknown => ?_, fun span held known record => ?_⟩
  · refine answersOnly_of_service (service := serveSpanRead) (a := Reply.invalid .value) rfl ready (by simp [longestBody]) ?_
    have none : r.positionOf (idOfByte west) = none := unknown
    simp only [serveSpanRead, geo, none]
  · have here : r.positionOf (idOfByte west) = some span := known
    have answer := answersOnly_of_service (i := .spanRead [west]) (service := serveSpanRead)
      (a := Reply.done ((s.deliver (.spanRead [west])).spanAnswer span)) rfl ready (by simp [longestBody])
      (by simp only [serveSpanRead, geo, here])
    have stored : (s.deliver (.spanRead [west])).recordOf span = held := by
      change (s.requests.records[span]?).getD _ = held
      rw [record]
      rfl
    dsimp only [State.spanAnswer] at answer
    rw [stored, geo, style_bit] at answer
    exact answer

theorem setDelay_of_same (s : State) {span delay : Nat} (same : Ring.delayOf s.geo.delays span = min delay maxDelay) :
    s.setDelay span delay = s.setRing (s.ring.map fun r => r.withDelay span delay) := if_pos same

theorem setDelay_of_change {span delay : Nat} (idle : s.sweeping = false)
    (change : Ring.delayOf s.geo.delays span ≠ min delay maxDelay) :
    s.setDelay span delay = (s.setRing (s.ring.map fun r => r.withDelay span delay)).startSweep 0 :=
  (if_neg change).trans (State.trigger_of_idle idle)

theorem byteOf_flagBit_decide (p : Prop) [Decidable p] : byteOf (flagBit (decide p) 1) = if p then 1 else 0 := by
  by_cases h : p <;> simp [h, flagBit, byteOf]

/-- Settles O16: LOCKED, BUSY and INVALID come first; a stored delay starts a sweep where it is another one. -/
theorem spanDelayIsStored : Obligations.SpanDelayIsStored := by
  unfold Obligations.SpanDelayIsStored
  intro s west d1 d0 ready
  obtain ⟨out, rdy⟩ := ready
  refine ⟨fun unloaded => ?_, fun loaded sweeping => ?_, fun loaded idle r ring => ⟨fun unknown => ?_, fun span known => ?_⟩⟩
  · refine answersOnly_of_locks (service := serveSpanDelay) rfl out rdy (by simp [longestBody]) ?_
    simp [State.locks, State.running, unloaded, takenUnloaded]
  · refine answersOnly_of_service (service := serveSpanDelay) (a := Reply.plain .busy) rfl ⟨loaded, rdy⟩
      (by simp [longestBody]) ?_
    simp [serveSpanDelay, sweeping]
  · refine answersOnly_of_service (service := serveSpanDelay) (a := Reply.invalid .value) rfl ⟨loaded, rdy⟩
      (by simp [longestBody]) ?_
    have none : r.positionOf (idOfByte west) = none := unknown
    simp [serveSpanDelay, idle, State.geo_of_ring ring, none]
  · let i := Instr.spanDelay [west, d1, d0]
    have geo : (s.deliver i).geo = r := State.geo_of_ring ring
    have here : r.positionOf (idOfByte west) = some span := known
    have serve : serveSpanDelay [west, d1, d0] (s.deliver i) = ((s.deliver i).setDelay span (wordOf d1 d0),
        Reply.done ([byteOf (r.westId span), byteOf (r.eastId span)] ++ wordBytes (min (wordOf d1 d0) maxDelay)
          ++ [byteOf (flagBit (decide (maxDelay < wordOf d1 d0)) 1)])) := by
      simp only [serveSpanDelay, State.deliver_sweeping, idle, geo, here]
      rfl
    have stored (u : State) (same : u.ring = s.ring) (h : (s.deliver i).ring = u.ring) :
        u.ring.map (fun r => r.withDelay span (wordOf d1 d0)) =
          some { r with delays := r.delays.set span (min (wordOf d1 d0) 4095) } := by
      rw [same, ring]
      rfl
    have idle' : (s.deliver i).sweeping = false := idle
    by_cases same : Ring.delayOf r.delays span = min (wordOf d1 d0) maxDelay
    · refine answers_of_loaded (service := serveSpanDelay) ⟨loaded, rdy⟩ rfl (by simp [longestBody])
        (serve.trans (congrArg (·, _) (setDelay_of_same _ (geo ▸ same)))) ?_ rfl ?_ ⟨?_, ?_, ?_⟩
      · exact onlyChanges_mono (setRing_only _ _) (by decide)
      · rw [byteOf_flagBit_decide]
        rfl
      · exact stored (s.deliver i) rfl rfl
      · exact fun change => absurd same change
      · exact fun _ => rfl
    · refine answers_of_loaded (service := serveSpanDelay) ⟨loaded, rdy⟩ rfl (by simp [longestBody])
        (serve.trans (congrArg (·, _) (setDelay_of_change idle' (geo ▸ same)))) ?_ rfl ?_ ⟨?_, ?_, ?_⟩
      · exact onlyChanges_chain (setRing_only _ _) (startSweep_only _ _) (by decide) (by decide)
      · rw [byteOf_flagBit_decide]
        rfl
      · exact stored (s.deliver i) rfl rfl
      · exact fun _ => rfl
      · exact fun h => absurd h same

/-! ### Publications (R144, R145) -/

/-- What a try to publish does, told of the fabric port alone. -/
theorem tryPublish_publishes (s : State) : publishesIf (s.gateOpen = true) s.fabric s.tryPublish.fabric s.now := by
  unfold State.tryPublish
  split
  next map gate flight committed =>
    refine ⟨fun _ => ⟨map, _, committed, rfl, rfl⟩, fun still => (still ⟨gate, flight, ?_⟩).elim⟩
    simp [FabricPort.mapPending, committed]
  next still =>
    refine ⟨fun ⟨gate, flight, pending⟩ => ?_, fun _ => rfl⟩
    cases committed : s.fabric.committed with
    | none => simp [FabricPort.mapPending, committed] at pending
    | some m =>
      obtain ⟨map, waits⟩ := m
      have waits : waits = true := by simpa [FabricPort.mapPending, committed] using pending
      exact (still map gate flight (waits ▸ committed)).elim

theorem publishesIf_congr {p q : Prop} {f g : FabricPort} {now : Nat} (same : p ↔ q) (h : publishesIf p f g now) :
    publishesIf q f g now := by
  unfold publishesIf at *
  rw [← same]
  exact h

/-- The gate formed again publishes where it opens. -/
theorem gateFormed_publishes (s : State) (before : Bool) :
    publishesIf (before = false ∧ s.gateOpen = true) s.fabric (s.gateFormed before).fabric s.now := by
  unfold State.gateFormed
  split_ifs with opens
  · simp only [Bool.and_eq_true, Bool.not_eq_true'] at opens
    exact publishesIf_congr (iff_of_true opens.2 opens) (tryPublish_publishes s)
  · simp only [Bool.and_eq_true, Bool.not_eq_true'] at opens
    exact ⟨fun starts => absurd starts.1 opens, fun _ => rfl⟩

theorem tryPublish_freezeFlag (s : State) : s.tryPublish.fabric.freezeFlag = s.fabric.freezeFlag := by
  unfold State.tryPublish
  split <;> rfl

theorem gateFormed_freezeFlag (s : State) (before : Bool) : (s.gateFormed before).fabric.freezeFlag = s.fabric.freezeFlag := by
  unfold State.gateFormed
  split_ifs
  · exact tryPublish_freezeFlag s
  · rfl

theorem gateFormed_gateOpen (s : State) (before : Bool) : (s.gateFormed before).gateOpen = s.gateOpen := by
  have only := gateFormed_only s before
  rw [State.gateOpen, State.frozen, only .loader (by decide), only .pins (by decide), gateFormed_freezeFlag]
  rfl

end Requests

/-- Settles O42: the flag or the pin takes its value, the gate is formed again, and its opening tries to publish. -/
theorem freezeFormsTheGate : Obligations.FreezeFormsTheGate := by
  unfold Obligations.FreezeFormsTheGate
  refine fun s => ⟨fun flag c named ready => ?_, fun asserted => ?_⟩
  · have formed := gateFormed_publishes ((s.deliver c).setFabric { s.fabric with freezeFlag := flag }) s.gateOpen
    have publishes : publishesIf (s.gateOpen = false ∧ s.loader.armed = true ∧ s.pins.freeze = false ∧ flag = false)
        { s.fabric with freezeFlag := flag } ((s.deliver c).setFreezeFlag flag).fabric s.now := by
      refine publishesIf_congr ?_ formed
      have gate : ((s.deliver c).setFabric { s.fabric with freezeFlag := flag }).gateOpen =
        (s.loader.armed && !(s.pins.freeze || flag)) := rfl
      rw [gate]
      simp
    have only := setFreezeFlag_only (s.deliver c) flag
    have serve : serveFreeze [if flag then 1 else 0] (s.deliver c) =
        ((s.deliver c).setFreezeFlag flag, Reply.done ((s.deliver c).setFreezeFlag flag).freezeAnswer) := by
      cases flag <;> rfl
    have run : exec c s = s.live fun t => t.request c 0x42#8 [if flag then 1 else 0] serveFreeze := by
      cases flag <;> exact named ▸ rfl
    refine answers_of_loaded (service := serveFreeze) ready run (by simp [longestBody]) serve only
      (only .mgmt (by decide)) ?_ publishes
    have answer : ((s.deliver c).setFreezeFlag flag).freezeAnswer =
        [byteOf (flagBit s.pins.freeze 4 + flagBit flag 2 + flagBit (s.loader.armed && !(s.pins.freeze || flag)) 1)] := by
      have only := setFreezeFlag_only (s.deliver c) flag
      have pins : ((s.deliver c).setFreezeFlag flag).pins = s.pins := only .pins (by decide)
      have loader : ((s.deliver c).setFreezeFlag flag).loader = s.loader := only .loader (by decide)
      have freeze : ((s.deliver c).setFreezeFlag flag).fabric.freezeFlag = flag := gateFormed_freezeFlag _ _
      rw [State.freezeAnswer, State.gateOpen, State.frozen, pins, loader, freeze]
    change ((s.deliver c).setFreezeFlag flag).freezeAnswer = _
    rw [answer]
    cases s.loader.armed <;> cases s.pins.freeze <;> cases flag <;> rfl
  · refine ⟨s.takeFreezePin asserted, rfl, takeFreezePin_only s asserted, gateFormed_only _ _ .pins (by decide), ?_⟩
    refine publishesIf_congr ?_ (gateFormed_publishes (s.setPins { s.pins with freeze := asserted }) s.gateOpen)
    have gate : (s.setPins { s.pins with freeze := asserted }).gateOpen =
      (s.loader.armed && !(asserted || s.fabric.freezeFlag)) := rfl
    rw [gate]
    simp

/-- An accepted ARM of a part that is not armed yet. -/
theorem armPart_of_unarmed {s : State} (unarmed : s.loader.armed = false) :
    s.armPart = ((s.setLoader { s.loader with armed := true }).gateFormed false).trigger := by
  have closed : s.gateOpen = false := by simp [State.gateOpen, unarmed]
  rw [State.armPart, if_neg (by simp [unarmed]), closed]

theorem armPart_gateOpen (s : State) : s.armPart.gateOpen = !s.frozen := by
  have only := armPart_only s
  have flag : s.armPart.fabric.freezeFlag = s.fabric.freezeFlag := by
    unfold State.armPart
    split_ifs
    · rfl
    · rw [trigger_only _ .fabric (by decide), gateFormed_freezeFlag]
      rfl
  rw [State.gateOpen, State.frozen, armPart_loader, only .pins (by decide), flag]
  rfl

theorem triggered_congr {s t u : State} (plan : s.plan = u.plan) (attention : s.attention = u.attention)
    (h : triggered u t) : triggered s t := by
  unfold triggered sweepStarted at *
  rw [plan, attention]
  exact h

/-- Settles O7: an ARM of an armed part changes nothing; else it sets the flag, forms the gate again and triggers. -/
theorem armOpensTheGate : Obligations.ArmOpensTheGate := by
  unfold Obligations.ArmOpensTheGate
  intro s ready
  let u := s.deliver (.arm [])
  have only := armPart_only u
  refine answers_of_loaded (service := serveArm) (u := u.armPart) ready rfl (by simp) rfl only (only .mgmt (by decide)) ?_ ?_
  · change [byteOf (flagBit u.armPart.loader.armed 2 + flagBit u.armPart.gateOpen 1)] = _
    rw [armPart_gateOpen, armPart_loader]
    change [byteOf (flagBit true 2 + flagBit (!s.frozen) 1)] = _
    cases s.frozen <;> rfl
  refine ⟨fun armed => ?_, fun unarmed => ?_⟩
  · have still : u.armPart = u := if_pos armed
    rw [still]
    exact ⟨rfl, rfl, rfl, rfl⟩
  · let armed := (u.setLoader { u.loader with armed := true }).gateFormed false
    have formed := gateFormed_only (u.setLoader { u.loader with armed := true }) false
    have eq : u.armPart = armed.trigger := armPart_of_unarmed unarmed
    refine ⟨armPart_loader u, ?_, ?_⟩
    · rw [eq]
      exact triggered_congr (formed .plan (by decide)).symm (formed .attention (by decide)).symm
        (State.trigger_triggered armed)
    · have publishes := gateFormed_publishes (u.setLoader { u.loader with armed := true }) false
      have fabric : u.armPart.fabric = armed.fabric := by
        rw [eq]
        exact trigger_only _ .fabric (by decide)
      change publishesIf _ _ u.armPart.fabric _
      rw [fabric]
      refine publishesIf_congr ?_ publishes
      have gate : (u.setLoader { u.loader with armed := true }).gateOpen = !s.frozen := rfl
      rw [gate]
      simp

end Sys2Proof.Machine
end

section
/-!
Proofs about the settings (sections 3.7 and 9.5), STATUS, and the requests that are refused before they are read (section 9.2).
-/

namespace Sys2Proof.Machine

section Settings

variable {s : State}

/-- A value is clamped where it lies outside its range (R50). -/
theorem clampTo_differs (low high n : Nat) (range : low ≤ high) : (n != clampTo low high n) = decide (n < low ∨ high < n) := by
  rw [Bool.eq_iff_iff, bne_iff_ne, decide_eq_true_eq]
  unfold clampTo
  omega

theorem flagBit_and_decide (b : Bool) (p : Prop) [Decidable p] (weight : Nat) :
    flagBit (b && decide p) weight = if b = true ∧ p then weight else 0 := by
  by_cases h : p <;> cases b <;> simp [flagBit, h]

theorem clamped_eq (b : SettingsBody) : b.clamped =
    (if b.gives 5 = true ∧ (b.holdOff < 0 ∨ 100 < b.holdOff) then 32 else 0)
      + (if b.gives 4 = true ∧ (b.clearSoak < 1 ∨ 60 < b.clearSoak) then 16 else 0)
      + (if b.gives 3 = true ∧ (b.settle < 0 ∨ 720 < b.settle) then 8 else 0)
      + (if b.gives 2 = true ∧ (b.dimThreshold < 1 ∨ 15 < b.dimThreshold) then 4 else 0)
      + (if b.gives 1 = true ∧ (b.transit < 0 ∨ 15 < b.transit) then 2 else 0) := by
  unfold SettingsBody.clamped
  rw [clampTo_differs _ _ _ (by decide), clampTo_differs _ _ _ (by decide), clampTo_differs _ _ _ (by decide),
    clampTo_differs _ _ _ (by decide), clampTo_differs _ _ _ (by decide)]
  simp only [flagBit_and_decide]

theorem clampTo_zero (high n : Nat) : clampTo 0 high n = min n high := Nat.zero_max _

/-- A raw level formed again is what the inputs give (R43). -/
theorem formRaw_raw (running : s.running = true) (x : Side) :
    ((s.formRaw x).monitors.get x).raw = (s.formRaw x).rawLevel x := by
  rw [(formRaw_works s x).rawLevel]
  by_cases same : s.rawLevel x = (s.monitors.get x).raw
  · rw [formRaw_of_same same]
    exact same.symm
  · rw [formRaw_monitors_of_changed running same, Pair.get_set_same]
    rfl

theorem eachSide_formRaw_raw (running : s.running = true) (y : Side) :
    ((s.eachSide fun x t => t.formRaw x).monitors.get y).raw = (s.eachSide fun x t => t.formRaw x).rawLevel y := by
  have both (x z : Side) (u : State) (on : u.running = true) (ne : x ≠ z) :
      (((u.formRaw x).formRaw z).monitors.get y).raw = ((u.formRaw x).formRaw z).rawLevel y := by
    have on' : (u.formRaw x).running = true := (formRaw_works u x).running.trans on
    by_cases last : y = z
    · rw [last]
      exact formRaw_raw on' z
    · have first : y = x := by cases x <;> cases y <;> cases z <;> simp_all
      rw [formRaw_monitor_of_ne last, (formRaw_works _ z).rawLevel, first]
      exact formRaw_raw on x
  unfold State.eachSide
  dsimp only
  split_ifs
  · exact both _ _ _ running (by decide)
  · exact both _ _ _ running (by decide)

theorem storeSettings_ring {r : Ring} (ring : s.ring = some r) (b : SettingsBody) :
    (s.storeSettings b).ring = some { r with transit := r.givenTransit b } := by
  change s.ring.map _ = _
  rw [ring]
  rfl

theorem writeSettings_of_dim {b : SettingsBody} (dim : (s.storeSettings b).settings.dimThreshold = s.settings.dimThreshold) :
    s.writeSettings b = if s.changesTransit b then (s.storeSettings b).trigger else s.storeSettings b := if_pos dim

/-- What a write that leaves the DIM threshold does while no sweep runs (R14, R159). -/
theorem writeSettings_of_idle {b : SettingsBody} (idle : s.sweeping = false)
    (dim : (s.storeSettings b).settings.dimThreshold = s.settings.dimThreshold) :
    onlyChanges [.settings, .ring, .attention, .plan] s (s.writeSettings b) ∧
      (s.writeSettings b).attention = { s.attention with masks := (s.writeSettings b).attention.masks } ∧
      (s.changesTransit b = true → sweepStarted s (s.writeSettings b)) ∧
      (s.changesTransit b = false → (s.writeSettings b).plan = s.plan) := by
  have still : (s.storeSettings b).sweeping = false := idle
  have stores := storeSettings_only s b
  rw [writeSettings_of_dim dim, State.trigger_of_idle still]
  cases changes : s.changesTransit b with
  | true => exact ⟨onlyChanges_chain stores (startSweep_only _ _) (by decide) (by decide), rfl, fun _ => rfl, nofun⟩
  | false => exact ⟨onlyChanges_mono stores (by decide), rfl, nofun, fun _ => rfl⟩

theorem ofByte_eq (b : Byte) : Causes.ofByte b =
    { plan := b.toNat / 64 % 2 == 1, linkE := b.toNat / 32 % 2 == 1, linkW := b.toNat / 16 % 2 == 1,
      protocol := b.toNat / 8 % 2 == 1, fabric := b.toNat / 4 % 2 == 1, mgmt := b.toNat / 2 % 2 == 1,
      load := b.toNat % 2 == 1 } := by
  simp [Causes.ofByte, bitOf]

end Settings

/-- Settles O17: the settings are stored, each clamped where it is given; a changed transit delay triggers, and with a changed
DIM threshold each monitor forms its raw level again. -/
theorem settingsReadAndWrite : Obligations.SettingsReadAndWrite := by
  unfold Obligations.SettingsReadAndWrite
  refine ⟨fun s r ready ring => ?_, fun s r marks hold soak s1 s0 dim transit masks ready idle ring => ?_⟩
  · have geo : s.geo = r := State.geo_of_ring ring
    subst geo
    exact answersOnly_of_service (service := serveSettingsRead) (a := Reply.done s.settingsBytes) rfl ready (by simp) rfl
  · intro given clamped newTransit newDim
    let i := Instr.settingsWrite [marks, hold, soak, s1, s0, dim, transit, masks]
    let b : SettingsBody :=
      { marks := marks, holdOff := hold.toNat, clearSoak := soak.toNat, settle := wordOf s1 s0, dimThreshold := dim.toNat,
        transit := transit.toNat, masks := masks }
    let u := s.deliver i
    have geo : u.geo = r := State.geo_of_ring ring
    have running : s.running = true := by simp [State.running, ready.1]
    have serve : serveSettingsWrite [marks, hold, soak, s1, s0, dim, transit, masks] u = (u.writeSettings b,
        Reply.done ((u.writeSettings b).settingsBytes ++ [byteOf b.clamped, byteOf (flagBit (u.changesTransit b) 1)])) := by
      have still : u.sweeping = false := idle
      simp only [serveSettingsWrite, parseSettings, still]
      rfl
    have only := writeSettings_only u b
    have works := writeSettings_works u b
    have transits : r.givenTransit b = newTransit := by
      change (if given 1 then clampTo 0 15 transit.toNat else r.transit) = _
      rw [clampTo_zero]
    have changes : u.changesTransit b = true ↔ newTransit ≠ r.transit := by
      rw [State.changesTransit, geo, bne_iff_ne, transits]
    have settings : (u.writeSettings b).settings = s.settings.given b := works.settings
    have dims : (s.settings.given b).dimThreshold = newDim := rfl
    refine answers_of_loaded (service := serveSettingsWrite) ready rfl (by simp [longestBody]) serve
      (onlyChanges_mono only (by decide)) (only .mgmt (by decide)) ?_ ⟨?_, ?_, ?_, fun same => ?_, fun changed x => ?_⟩
    · change _ ++ [byteOf b.clamped, byteOf (flagBit (u.changesTransit b) 1)] = _ ++ [_, _]
      have bit : byteOf (flagBit (u.changesTransit b) 1) = if newTransit ≠ r.transit then 1 else 0 := by
        by_cases change : newTransit ≠ r.transit
        · rw [changes.mpr change, if_pos change]
          rfl
        · rw [Bool.eq_false_iff.mpr fun h => change (changes.mp h), if_neg change]
          rfl
      rw [bit, clamped_eq]
      rfl
    · change (u.writeSettings b).settings = _
      rw [settings]
      simp only [Settings.given, clampTo_zero]
      rfl
    · change (u.writeSettings b).ring = _
      rw [works.ring, storeSettings_ring (s := u) ring, transits]
    · change (u.writeSettings b).attention.masks = _
      rw [works.hears.masks]
      change (if given 0 then Causes.ofByte masks else s.attention.masks) = _
      rw [ofByte_eq]
    · obtain ⟨kept, attention, sweeps, stands⟩ := writeSettings_of_idle (s := u) idle (dims.trans same)
      exact ⟨kept .monitors (by decide), kept .requests (by decide), kept .protocol (by decide), kept .ports (by decide),
        attention, fun change => sweeps (changes.mpr change),
        fun same => stands (Bool.eq_false_iff.mpr fun h => changes.mp h same)⟩
    · have differs : ¬(u.storeSettings b).settings.dimThreshold = u.settings.dimThreshold := fun h => changed (dims.symm.trans h)
      change ((u.writeSettings b).monitors.get x).raw = (u.writeSettings b).rawLevel x
      rw [State.writeSettings, if_neg differs]
      refine eachSide_formRaw_raw ?_ x
      split_ifs
      · exact (Works.trigger _).running.trans running
      · exact running

/-! ### STATUS (R168) -/

theorem insertReported_length (r : Ring) (e : ServedEntry) (l : List ServedEntry) :
    (r.insertReported e l).length = l.length + 1 := by
  induction l with
  | nil => rfl
  | cons f rest ih =>
    unfold Ring.insertReported
    split_ifs
    · rfl
    · rw [List.length_cons, ih, List.length_cons]

theorem reportOrder_length (r : Ring) (l : List ServedEntry) : (r.reportOrder l).length = l.length := by
  induction l with
  | nil => rfl
  | cons e rest ih => exact (insertReported_length r e _).trans (congrArg (· + 1) ih)

/-- The role bits of STATUS and the sides they switch on (R168). -/
theorem role_bits (role : Role) : role.code * 64 + flagBit (role.switchesOn .east) 32 + flagBit (role.switchesOn .west) 16 =
    match role with
    | .idle => 0 | .passing => 64 | .barred => 128
    | .switchingEast => 192 + 32 | .switchingWest => 192 + 16 | .switchingBoth => 192 + 32 + 16 := by
  cases role <;> rfl

theorem view_bits (e : PlanEngine) : e.viewCode * 4 =
    match e.committed with
    | none => 0
    | some p => if p.view = .full then 4 else 8 := by
  unfold PlanEngine.viewCode
  cases e.committed with
  | none => rfl
  | some p => cases view : p.view <;> simp [view]

/-- Settles O46: the answer is the status bytes, whose served spans are listed once each. -/
theorem statusAnswersLayout : Obligations.StatusAnswersLayout := by
  unfold Obligations.StatusAnswersLayout
  intro s ready flag seconds side link role view states c served body
  have sides (x : Side) : side x = s.statusOfSide x := by
    simp only [side, State.statusOfSide, seconds, LocalRequest.settleCode]
    cases (s.requests.sides.get x).settleTimer <;> rfl
  have links (x : Side) : link x = s.statusOfLink x := by
    simp only [link, State.statusOfLink]
    cases (s.ports.get x).standing <;> rfl
  have roles : role + view = s.requests.role.code * 64 + flagBit (s.requests.role.switchesOn .east) 32
      + flagBit (s.requests.role.switchesOn .west) 16 + s.plan.viewCode * 4 :=
    congrArg₂ (· + ·) (role_bits s.requests.role).symm (view_bits s.plan).symm
  have both : states .east * 16 + states .west = (s.protocol.sides.get .east).decided.code * 64
      + (s.protocol.sides.get .east).realised.code * 16 + (s.protocol.sides.get .west).decided.code * 4
      + (s.protocol.sides.get .west).realised.code := by
    simp only [states]
    omega
  have answer : body = s.statusAnswer := by
    simp only [body, State.statusAnswer]
    rw [sides, sides, links, links, roles, both]
    rfl
  refine ⟨?_, ?_⟩
  · rw [answer]
    exact answersOnly_of_taken (service := serveStatus) (r := Reply.done s.statusAnswer) ready rfl (by simp) rfl rfl
  · have spans : served.length = s.requests.served.length := reportOrder_length _ _
    have listed : (served.flatMap fun e => [byteOf (s.geo.westId e.span), byteOf (s.geo.eastId e.span), byteOf e.kind.code]).length
        = 3 * served.length := by
      induction served with
      | nil => rfl
      | cons e rest ih =>
        rw [List.flatMap_cons, List.length_append, ih]
        simp only [List.length_cons, List.length_nil]
        omega
    have five (x : Side) : (side x).length = 5 := rfl
    have four (x : Side) : (link x).length = 4 := by
      simp only [link]
      cases (s.ports.get x).standing <;> rfl
    simp only [body, List.length_append, five, four, listed, spans]
    simp only [List.length_cons, List.length_nil, wordBytes]

/-! ### Bodies of a wrong shape (R156) -/

section Shapes

variable {body : List Byte} {s : State}

theorem parseAdd_of_length (h : body.length < 9 ∨ body.length ≠ 9 + (body.getD 8 0).toNat) : parseAdd body = none := by
  unfold parseAdd
  split
  · refine if_neg fun fits => ?_
    simp only [List.length_cons, List.getD_cons_succ, List.getD_cons_zero] at h
    omega
  · rfl

theorem parseEdit_of_length (h : body.length < 7 ∨ body.length ≠ 7 + (body.getD 6 0).toNat) : parseEdit body = none := by
  unfold parseEdit
  split
  · refine if_neg fun fits => ?_
    simp only [List.length_cons, List.getD_cons_succ, List.getD_cons_zero] at h
    omega
  · rfl

theorem parseId_of_length (h : body.length ≠ 2) : parseId body = none := by
  unfold parseId
  split
  · exact absurd rfl h
  · rfl

theorem parseSettings_of_length (h : body.length ≠ 8) : parseSettings body = none := by
  unfold parseSettings
  split
  · exact absurd rfl h
  · rfl

theorem serveChannelRead_of_length (h : body.length ≠ 2) : serveChannelRead body s = (s, Reply.invalid .length) := by
  unfold serveChannelRead
  split
  · exact absurd rfl h
  · rfl

theorem serveOperator_of_length (h : body.length ≠ 2) : serveOperator body s = (s, Reply.invalid .length) := by
  unfold serveOperator
  split
  · exact absurd rfl h
  · rfl

theorem serveWalk_of_length (h : body.length ≠ 3) : serveWalk body s = (s, Reply.invalid .length) := by
  unfold serveWalk
  split
  · exact absurd rfl h
  · rfl

theorem serveSpanDelay_of_length (h : body.length ≠ 3) : serveSpanDelay body s = (s, Reply.invalid .length) := by
  unfold serveSpanDelay
  split
  · exact absurd rfl h
  · rfl

theorem serveSpanRead_of_length (h : body.length ≠ 1) : serveSpanRead body s = (s, Reply.invalid .length) := by
  unfold serveSpanRead
  split
  · exact absurd rfl h
  · rfl

theorem serveFreeze_of_length (h : body.length ≠ 1) : serveFreeze body s = (s, Reply.invalid .length) := by
  unfold serveFreeze
  split
  · exact absurd rfl h
  · rfl

theorem serveFaultRead_of_length (h : body.length ≠ 1) : serveFaultRead body s = (s, Reply.invalid .length) := by
  unfold serveFaultRead
  split
  · exact absurd rfl h
  · rfl

theorem serveFaultClear_of_length (h : body.length ≠ 1) : serveFaultClear body s = (s, Reply.invalid .length) := by
  unfold serveFaultClear
  split
  · exact absurd rfl h
  · rfl

theorem sideOfByte_eq_none {b : Byte} (h : 1 < b.toNat) : sideOfByte b = none := by
  unfold sideOfByte
  split
  case h_3 => rfl
  all_goals omega

theorem operatorOfByte_eq_none {b : Byte} (h : 3 < b.toNat) : OperatorPart.ofByte b = none := by
  unfold OperatorPart.ofByte
  split
  case h_5 => rfl
  all_goals omega

theorem serveOperator_of_value {side action : Byte} (h : 1 < side.toNat ∨ 3 < action.toNat) :
    serveOperator [side, action] s = (s, Reply.invalid .value) := by
  obtain large | large := h
  · simp only [serveOperator, sideOfByte_eq_none large]
  · simp only [serveOperator, operatorOfByte_eq_none large]
    cases sideOfByte side <;> rfl

theorem serveFreeze_of_value {action : Byte} (h : 1 < action.toNat) :
    serveFreeze [action] s = (s, Reply.invalid .value) := by
  unfold serveFreeze
  dsimp only
  split
  case h_3 => rfl
  all_goals omega

end Shapes

/-- Settles O48: each service reads its body's shape first. -/
theorem malformedBodiesAreInvalid : Obligations.MalformedBodiesAreInvalid := by
  unfold Obligations.MalformedBodiesAreInvalid
  refine ⟨fun s body ready fits => ?_, fun s side action ready => ⟨fun wrong => ?_, fun wrong => ?_⟩⟩
  · have invalid {i : Instr} {code : Byte} {service : Service} (run : exec i s = s.live fun t => t.request i code body service)
        (serve : ∀ t, service body t = (t, Reply.invalid .length)) : AnswersOnly i s code .invalid [7] :=
      answersOnly_of_service run ready fits (serve _)
    refine ⟨fun h => ?_, fun h => ?_, fun h => ⟨?_, ?_, ?_, ?_, ?_, ?_, ?_⟩, fun h => ⟨?_, ?_, ?_⟩,
      fun h => ⟨?_, ?_, ?_, ?_, ?_⟩, fun h => ?_, fun h => ?_⟩
    · exact invalid (service := serveAdd) rfl fun t => by rw [serveAdd, parseAdd_of_length h]
    · exact invalid (service := serveEdit) rfl fun t => by rw [serveEdit, parseEdit_of_length h]
    · exact invalid (service := serveRetire) rfl fun t => by rw [serveRetire, parseId_of_length h]
    · exact invalid (service := serveRead) rfl fun t => by rw [serveRead, parseId_of_length h]
    · exact invalid (service := serveChannelRead) rfl fun t => serveChannelRead_of_length h
    · exact invalid (service := serveOperator) rfl fun t => serveOperator_of_length h
    · exact invalid (service := serveOperator) rfl fun t => serveOperator_of_length h
    · exact invalid (service := serveOperator) rfl fun t => serveOperator_of_length h
    · exact invalid (service := serveOperator) rfl fun t => serveOperator_of_length h
    · exact invalid (service := serveWalk) rfl fun t => serveWalk_of_length h
    · exact invalid (service := serveWalk) rfl fun t => serveWalk_of_length h
    · exact invalid (service := serveSpanDelay) rfl fun t => serveSpanDelay_of_length h
    · exact invalid (service := serveSpanRead) rfl fun t => serveSpanRead_of_length h
    · exact invalid (service := serveFreeze) rfl fun t => serveFreeze_of_length h
    · exact invalid (service := serveFreeze) rfl fun t => serveFreeze_of_length h
    · exact invalid (service := serveFaultRead) rfl fun t => serveFaultRead_of_length h
    · exact invalid (service := serveFaultClear) rfl fun t => serveFaultClear_of_length h
    · exact invalid (service := serveSettingsWrite) rfl fun t => by rw [serveSettingsWrite, parseSettings_of_length h]
    · have given : body.isEmpty = false := by simpa using h
      refine ⟨?_, ?_, ?_, ?_⟩
      · exact invalid (service := serveStatus) rfl fun t => by simp [serveStatus, given]
      · exact invalid (service := serveSettingsRead) rfl fun t => by simp [serveSettingsRead, given]
      · exact invalid (service := serveArm) rfl fun t => by simp [serveArm, given]
      · exact invalid (service := serveRestart) rfl fun t => by simp [serveRestart, given]
  · have invalid {i : Instr} (run : exec i s = s.live fun t => t.request i 0x30#8 [side, action] serveOperator) :
        AnswersOnly i s 0x30#8 .invalid [8] :=
      answersOnly_of_service run ready (by simp [longestBody]) (serveOperator_of_value wrong)
    simp only [List.forall_mem_cons, List.not_mem_nil, false_implies, implies_true, and_true]
    exact ⟨invalid rfl, invalid rfl, invalid rfl, invalid rfl⟩
  · have invalid {i : Instr} (run : exec i s = s.live fun t => t.request i 0x42#8 [action] serveFreeze) :
        AnswersOnly i s 0x42#8 .invalid [8] :=
      answersOnly_of_service run ready (by simp [longestBody]) (serveFreeze_of_value wrong)
    simp only [List.forall_mem_cons, List.not_mem_nil, false_implies, implies_true, and_true]
    exact ⟨invalid rfl, invalid rfl⟩

/-! ### LOCKED and BUSY (R12, R25, R156, R159) -/

section Busy

variable {body : List Byte} {s : State}

theorem parseAdd_isSome (h : body.length = 9 + (body.getD 8 0).toNat) : ∃ a, parseAdd body = some a := by
  obtain _ | ⟨i1, _ | ⟨i0, _ | ⟨ch, _ | ⟨src, _ | ⟨dst, _ | ⟨codes, _ | ⟨c1, _ | ⟨c0, _ | ⟨n, label⟩⟩⟩⟩⟩⟩⟩⟩⟩ := body
  case cons.cons.cons.cons.cons.cons.cons.cons.cons =>
    refine ⟨_, if_pos ?_⟩
    simp only [List.length_cons, List.getD_cons_succ, List.getD_cons_zero] at h
    omega
  all_goals
    simp only [List.length_cons, List.length_nil] at h
    omega

theorem parseEdit_isSome (h : body.length = 7 + (body.getD 6 0).toNat) : ∃ e, parseEdit body = some e := by
  obtain _ | ⟨i1, _ | ⟨i0, _ | ⟨marks, _ | ⟨codes, _ | ⟨c1, _ | ⟨c0, _ | ⟨n, label⟩⟩⟩⟩⟩⟩⟩ := body
  case cons.cons.cons.cons.cons.cons.cons =>
    refine ⟨_, if_pos ?_⟩
    simp only [List.length_cons, List.getD_cons_succ, List.getD_cons_zero] at h
    omega
  all_goals
    simp only [List.length_cons, List.length_nil] at h
    omega

theorem serveAdd_busy (sweeping : s.sweeping = true) (h : body.length = 9 + (body.getD 8 0).toNat) :
    serveAdd body s = (s, Reply.plain .busy) := by
  obtain ⟨a, parsed⟩ := parseAdd_isSome h
  simp only [serveAdd, parsed, sweeping, if_true]

theorem serveEdit_busy (sweeping : s.sweeping = true) (h : body.length = 7 + (body.getD 6 0).toNat) :
    serveEdit body s = (s, Reply.plain .busy) := by
  obtain ⟨e, parsed⟩ := parseEdit_isSome h
  simp only [serveEdit, parsed, sweeping, if_true]

theorem serveRetire_busy (sweeping : s.sweeping = true) (h : body.length = 2) :
    serveRetire body s = (s, Reply.plain .busy) := by
  obtain ⟨i1, i0, rfl⟩ := List.length_eq_two.mp h
  simp only [serveRetire, parseId, sweeping, if_true]

theorem serveSpanDelay_busy (sweeping : s.sweeping = true) (h : body.length = 3) :
    serveSpanDelay body s = (s, Reply.plain .busy) := by
  obtain ⟨west, d1, d0, rfl⟩ := List.length_eq_three.mp h
  simp only [serveSpanDelay, sweeping, if_true]

theorem parseSettings_isSome (h : body.length = 8) : ∃ b, parseSettings body = some b := by
  obtain _ | ⟨marks, _ | ⟨hold, _ | ⟨soak, _ | ⟨s1, _ | ⟨s0, _ | ⟨dim, _ | ⟨transit, _ | ⟨masks, _ | ⟨more, rest⟩⟩⟩⟩⟩⟩⟩⟩⟩ := body
  case cons.cons.cons.cons.cons.cons.cons.cons.nil => exact ⟨_, rfl⟩
  all_goals
    simp only [List.length_cons, List.length_nil] at h
    omega

theorem serveSettingsWrite_busy (sweeping : s.sweeping = true) (h : body.length = 8) :
    serveSettingsWrite body s = (s, Reply.plain .busy) := by
  obtain ⟨b, parsed⟩ := parseSettings_isSome h
  simp only [serveSettingsWrite, parsed, sweeping, if_true]

theorem gives_of_masks_alone {b : SettingsBody} (alone : b.marks.toNat % 64 = 1) :
    b.gives 0 = true ∧ b.gives 1 = false ∧ b.gives 2 = false ∧ b.gives 3 = false ∧ b.gives 4 = false ∧ b.gives 5 = false := by
  simp only [SettingsBody.gives, bitOf, beq_iff_eq, beq_eq_false_iff_ne]
  omega

/-- A SETTINGS-WRITE of the masks alone leaves the settings and the ring as they are (R156). -/
theorem storeSettings_of_masks_alone {b : SettingsBody} (alone : b.marks.toNat % 64 = 1) :
    s.storeSettings b = s.setAttention { s.attention with masks := Causes.ofByte b.masks } := by
  obtain ⟨masks, transit, dim, settle, soak, hold⟩ := gives_of_masks_alone alone
  have settings : s.settings.given b = s.settings := by simp [Settings.given, dim, settle, soak, hold]
  have ring : (s.ring.map fun r => { r with transit := r.givenTransit b }) = s.ring := by simp [Ring.givenTransit, transit]
  simp [State.storeSettings, settings, ring, masks, State.setAttention, State.setRing, State.setSettings]

end Busy

/-- Settles O47: the requests that a part not LOADED refuses, the masks it takes, and the edits that a sweep refuses. -/
theorem lockedAndBusy : Obligations.LockedAndBusy := by
  unfold Obligations.LockedAndBusy
  refine ⟨fun s body ready unloaded fits => ⟨?_, fun more => ?_, fun hold soak s1 s0 dim transit masks idle => ?_⟩,
    fun s body ready sweeping fits => ⟨fun h => ?_, fun h => ?_, fun h => ?_, fun h => ?_, fun h => ?_⟩⟩
  · obtain ⟨out, rdy⟩ := ready
    have locked {i : Instr} {code : Byte} (service : Service) (run : exec i s = s.live fun t => t.request i code body service)
        (refused : takenUnloaded code body = false) : AnswersOnly i s code .locked [] :=
      answersOnly_of_locks run out rdy fits (by simp [State.locks, State.running, unloaded, refused])
    simp only [List.forall_mem_cons, List.not_mem_nil, false_implies, implies_true, and_true]
    exact ⟨locked serveAdd rfl rfl, locked serveEdit rfl rfl, locked serveRetire rfl rfl, locked serveRead rfl rfl,
      locked serveChannelRead rfl rfl, locked serveWalk rfl rfl, locked serveWalk rfl rfl, locked serveSpanRead rfl rfl,
      locked serveSpanDelay rfl rfl, locked serveOperator rfl rfl, locked serveOperator rfl rfl,
      locked serveOperator rfl rfl, locked serveOperator rfl rfl, locked serveSettingsRead rfl rfl,
      locked serveFreeze rfl rfl, locked serveFreeze rfl rfl, locked serveArm rfl rfl⟩
  · obtain ⟨out, rdy⟩ := ready
    refine answersOnly_of_locks (service := serveSettingsWrite) rfl out rdy fits ?_
    have refused : givesMasksAlone body = false := by
      cases body with
      | nil => rfl
      | cons marks rest => exact beq_eq_false_iff_ne.mpr more
    simp [State.locks, State.running, unloaded, takenUnloaded, refused]
  · let b : SettingsBody :=
      { marks := 1, holdOff := hold.toNat, clearSoak := soak.toNat, settle := wordOf s1 s0, dimThreshold := dim.toNat,
        transit := transit.toNat, masks := masks }
    let u := s.deliver (.settingsWrite [1, hold, soak, s1, s0, dim, transit, masks])
    have stored : u.writeSettings b = u.setAttention { u.attention with masks := Causes.ofByte masks } :=
      (writeSettings_of_masks_alone rfl).trans (storeSettings_of_masks_alone rfl)
    obtain ⟨-, one, two, three, four, five⟩ := gives_of_masks_alone (b := b) rfl
    have clamped : b.clamped = 0 := by simp [SettingsBody.clamped, one, two, three, four, five, flagBit]
    have unchanged : u.changesTransit b = false := by simp [State.changesTransit, Ring.givenTransit, one]
    have still : u.sweeping = false := idle
    have serve : serveSettingsWrite [1, hold, soak, s1, s0, dim, transit, masks] u =
        (u.setAttention { u.attention with masks := Causes.ofByte masks },
          Reply.done ((u.setAttention { u.attention with masks := Causes.ofByte masks }).settingsBytes ++ [0, 0])) := by
      simp only [serveSettingsWrite, parseSettings, still]
      change (u.writeSettings b, Reply.done ((u.writeSettings b).settingsBytes ++
        [byteOf b.clamped, byteOf (flagBit (u.changesTransit b) 1)])) = _
      rw [stored, clamped, unchanged]
      rfl
    exact answers_of_taken (service := serveSettingsWrite) ready rfl (by simp [longestBody]) rfl serve
      (onlyChanges_mono (setAttention_only _ _) (by decide)) rfl rfl ⟨rfl, rfl⟩
  · exact answersOnly_of_service (service := serveAdd) rfl ready fits (serveAdd_busy sweeping h)
  · exact answersOnly_of_service (service := serveEdit) rfl ready fits (serveEdit_busy sweeping h)
  · exact answersOnly_of_service (service := serveRetire) rfl ready fits (serveRetire_busy sweeping h)
  · exact answersOnly_of_service (service := serveSpanDelay) rfl ready fits (serveSpanDelay_busy sweeping h)
  · exact answersOnly_of_service (service := serveSettingsWrite) rfl ready fits (serveSettingsWrite_busy sweeping h)

end Sys2Proof.Machine
end

section
/-!
Proofs about the circuit requests (chapter 2): the accepted ADD, EDIT, the lookups and WALK.
-/

namespace Sys2Proof.Machine

/-! ### Bytes of numbers -/

theorem toNat_byteOf {n : Nat} (h : n < 256) : (byteOf n).toNat = n := by
  simp [byteOf, Nat.mod_eq_of_lt h]

/-- A two-byte field reads back as the number it was written from (section 9.9). -/
theorem wordOf_bytes {n : Nat} (h : n < 65536) : wordOf (byteOf (n / 256)) (byteOf n) = n := by
  simp only [wordOf, byteOf, BitVec.toNat_ofNat]
  omega

theorem Direction.ofCode_code (d : Direction) : Direction.ofCode d.code = some d := by cases d <;> rfl
theorem CircuitClass.ofCode_code (c : CircuitClass) : CircuitClass.ofCode c.code = some c := by cases c <;> rfl
theorem LatePolicy.ofCode_code (p : LatePolicy) : LatePolicy.ofCode p.code = some p := by cases p <;> rfl

theorem Ring.sound.id_lt {r : Ring} (sound : r.sound) {id : Nat} (onRing : (r.positionOf id).isSome = true) : id < 64 := by
  obtain ⟨-, -, -, -, ids, -⟩ := sound
  obtain ⟨p, found⟩ := Option.isSome_iff_exists.mp onRing
  have value := Ring.idAt_positionOf found
  rw [Ring.idAt, List.getD_eq_getElem _ _ (Ring.positionOf_lt found)] at value
  exact value ▸ ids _ (List.getElem_mem _)

theorem storedLabel_eq (label : List Byte) : storedLabel label = if label = [] then none else some (label.take 16) := by
  cases label <;> rfl

section Add

variable {s : State} {r : Ring} {c : Circuit}

/-- An ADD body that says the fields of a sound record asks for that record (R27). -/
theorem Ring.checkAdd_of_sound (ring : r.sound) (sound : c.sound r) {codes : Byte} {label : List Byte}
    (stored : c.label = storedLabel label) (direction : directionField codes = c.direction.code)
    (cls : classField codes = c.cls.code) (policy : policyField codes = c.policy.code) :
    r.checkAdd { id := c.id, channel := c.channel, source := c.source, destination := c.destination, codes := codes,
                 ceiling := c.ceiling, label := label } = .ok c := by
  obtain ⟨id, channel, source, destination, differ, agrees, -, -⟩ := sound
  have first := ring.id_lt source
  have second := ring.id_lt destination
  rw [Ring.checkAdd_of_codes ⟨by simpa using id, by simpa using channel, ?_, differ⟩
    (direction ▸ Direction.ofCode_code c.direction) (cls ▸ CircuitClass.ofCode_code c.cls)
    (policy ▸ LatePolicy.ofCode_code c.policy), if_pos ((CircuitClass.agrees_iff _ _).mpr agrees)]
  · simp [AddBody.record, ← stored]
  · rintro (h | h | h | h)
    · exact absurd first (by simp only at h; omega)
    · exact absurd second (by simp only at h; omega)
    · exact absurd source (by simp only at h; simp [h])
    · exact absurd destination (by simp only at h; simp [h])

theorem serveAdd_done {body : List Byte} {a : AddBody} (parse : parseAdd body = some a) (idle : s.sweeping = false)
    (geo : s.geo = r) (ok : r.checkAdd a = .ok c) (new : ¬∃ d ∈ s.table.circuits, d.id = c.id)
    (clear : r.clashing s.table.circuits c = none) (room : s.table.circuits.length < recordPlaces) :
    serveAdd body s = (s.addCircuit c, Reply.done (r.addAnswer c (labelCut a.label))) := by
  simp [serveAdd, parse, idle, geo, ok, (s.table.find_eq_none_iff c.id).mpr new, clear, Nat.not_le.mpr room]

/-- An accepted ADD while no sweep runs: the table with the record, and a sweep from channel 0 (R28, R133). -/
theorem State.addCircuit_of_idle (idle : s.sweeping = false) (c : Circuit) :
    s.addCircuit c = (s.setTable { circuits := s.geo.insertCircuit c s.table.circuits,
                                   cursor := disturb s.table.cursor c.channel }).startSweep 0 :=
  State.trigger_of_idle idle

theorem addCircuit_only_of_idle (idle : s.sweeping = false) (c : Circuit) :
    onlyChanges [.table, .plan] s (s.addCircuit c) := by
  rw [State.addCircuit_of_idle idle]
  exact onlyChanges_chain (setTable_only s _) (startSweep_only _ _) (by decide) (by decide)

end Add

/-- Settles O9: the body is read as the record it says, which passes every check and is inserted in order. -/
theorem addAccepted : Obligations.AddAccepted := by
  unfold Obligations.AddAccepted
  intro s r c codes label ready idle tables ring sound stored short direction cls policy new apart room
  obtain ⟨-, whole, ⟨-, records, -, ordered, -⟩, -⟩ := tables.of_ring ring
  have fields := sound
  obtain ⟨id, channel, source, destination, -, -, ceiling, -⟩ := fields
  have first := whole.id_lt source
  have second := whole.id_lt destination
  let body := wordBytes c.id ++ [byteOf c.channel, byteOf c.source, byteOf c.destination, codes] ++ wordBytes c.ceiling
    ++ byteOf label.length :: label
  let u := s.deliver (.add body)
  have geo : u.geo = r := State.geo_of_ring ring
  have idle : u.sweeping = false := idle
  have parse : parseAdd body = some
      { id := c.id, channel := c.channel, source := c.source, destination := c.destination, codes := codes,
        ceiling := c.ceiling, label := label } := by
    refine (parseAdd_of_label (byteOf (c.id / 256)) (byteOf c.id) (byteOf c.channel) (byteOf c.source)
      (byteOf c.destination) codes (byteOf (c.ceiling / 256)) (byteOf c.ceiling) short).trans ?_
    rw [wordOf_bytes (by omega), wordOf_bytes (by omega), toNat_byteOf (by omega), toNat_byteOf (by omega),
      toNat_byteOf (by omega)]
  have ok := Ring.checkAdd_of_sound whole sound (stored.trans (storedLabel_eq label).symm) direction cls policy
  have clear : r.clashing u.table.circuits c = none := by
    rw [Ring.clashing_eq_none_iff]
    rintro ⟨d, mem, same, meets⟩
    exact absurd (apart d mem same) (by simp [meets])
  have fits : body.length ≤ longestBody := by
    simp only [body, List.length_append, List.length_cons, wordBytes, List.length_nil, longestBody]
    omega
  have serve := serveAdd_done parse idle geo ok (by rintro ⟨d, mem, same⟩; exact new d mem same) clear room
  obtain ⟨before, after, split, inserted, low, high⟩ := Ring.insertCircuit_split ordered fun d mem =>
    Ring.chainBefore_total sound (records d mem) (apart d mem)
  have only := addCircuit_only_of_idle idle c
  have table : (u.addCircuit c).table = { circuits := r.insertCircuit c u.table.circuits,
                                          cursor := disturb u.table.cursor c.channel } := by
    rw [State.addCircuit_of_idle idle, geo]
    rfl
  refine answers_of_loaded (service := serveAdd) ready rfl fits serve only (only .mgmt (by decide)) ?_
    ⟨⟨before, after, split, ?_, low, high⟩, ?_, ?_⟩
  · change wordBytes c.id ++ [_, _, _, byteOf (flagBit (decide (16 < label.length)) 1)] = _
    rw [byteOf_flagBit_decide]
    rfl
  · rw [State.answer_table, table]
    exact inserted
  · rw [State.answer_table, table]
    rfl
  · rw [State.addCircuit_of_idle idle]
    rfl

/-! ### EDIT (R29, R30) -/

theorem parseEdit_of_label (i1 i0 marks codes c1 c0 : Byte) {label : List Byte} (short : label.length ≤ 33) :
    parseEdit (i1 :: i0 :: marks :: codes :: c1 :: c0 :: byteOf label.length :: label) =
      some { id := wordOf i1 i0, marks := marks, codes := codes, ceiling := wordOf c1 c0, label := label } :=
  if_pos (toNat_byteOf (by omega)).symm

section Edit

variable {e : EditBody}

/-- The class an EDIT gives is undefined only where it gives one. -/
theorem EditBody.classOr_eq_none_iff (c : CircuitClass) :
    e.classOr c = none ↔ e.givesClass = true ∧ 2 < classField e.codes := by
  unfold EditBody.classOr
  split_ifs with gives
  · simp [gives, CircuitClass.ofCode_eq_none_iff]
  · simp [gives]

theorem EditBody.policyOr_eq_none_iff (p : LatePolicy) :
    e.policyOr p = none ↔ e.givesPolicy = true ∧ 1 < policyField e.codes := by
  unfold EditBody.policyOr
  split_ifs with gives
  · simp [gives, LatePolicy.ofCode_eq_none_iff]
  · simp [gives]

theorem EditBody.classOr_eq {c cls : CircuitClass}
    (h : if e.givesClass then cls.code = classField e.codes else cls = c) : e.classOr c = some cls := by
  unfold EditBody.classOr
  split_ifs at h ⊢
  · exact h ▸ CircuitClass.ofCode_code cls
  · rw [h]

theorem EditBody.policyOr_eq {p policy : LatePolicy}
    (h : if e.givesPolicy then policy.code = policyField e.codes else policy = p) : e.policyOr p = some policy := by
  unfold EditBody.policyOr
  split_ifs at h ⊢
  · exact h ▸ LatePolicy.ofCode_code policy
  · rw [h]

theorem Circuit.edited_eq {c : Circuit} {cls : CircuitClass} {policy : LatePolicy}
    (hc : if e.givesClass then cls.code = classField e.codes else cls = c.cls)
    (hp : if e.givesPolicy then policy.code = policyField e.codes else policy = c.policy) :
    c.edited e cls policy = { c with
      cls := cls, policy := policy, ceiling := if e.givesCeiling then e.ceiling else c.ceiling
      label := if e.givesLabel then storedLabel e.label else c.label } := by
  unfold Circuit.edited
  split_ifs at hc hp ⊢ <;> simp_all

theorem CircuitClass.changesExtra_iff (old new : CircuitClass) :
    old.changesExtra new = true ↔ ¬(old = .extra ↔ new = .extra) := by
  cases old <;> cases new <;> simp [CircuitClass.changesExtra]

theorem Circuit.planDiffers_iff (old new : Circuit) :
    old.planDiffers new = true ↔ new.cls ≠ old.cls ∨ new.policy ≠ old.policy ∨ new.ceiling ≠ old.ceiling := by
  simp only [Circuit.planDiffers, Bool.or_eq_true, bne_iff_ne, ne_comm (b := new.cls), ne_comm (b := new.policy),
    ne_comm (b := new.ceiling)]
  tauto

/-- An accepted EDIT while no sweep runs: the records with the new one in place, and a sweep where the plan's input changes
(R30). -/
theorem State.editCircuit_of_idle {s : State} (idle : s.sweeping = false) (old new : Circuit) :
    s.editCircuit old new = if old.planDiffers new then (s.setTable (s.table.replace new)).startSweep 0
      else s.setTable (s.table.replace new) := by
  have still : (s.setTable (s.table.replace new)).sweeping = false := idle
  unfold State.editCircuit
  dsimp only
  rw [State.trigger_of_idle still]

end Edit

/-- Settles O11: the fields that are given are read, and the record with them replaced is stored in its place. -/
theorem editByGivenMarks : Obligations.EditByGivenMarks := by
  unfold Obligations.EditByGivenMarks
  intro s i1 i0 marks codes c1 c0 label ready idle tables short edit id given
  let e : EditBody := { id := id, marks := marks, codes := codes, ceiling := wordOf c1 c0, label := label }
  let body := i1 :: i0 :: marks :: codes :: c1 :: c0 :: byteOf label.length :: label
  let u := s.deliver edit
  have parse : parseEdit body = some e := parseEdit_of_label i1 i0 marks codes c1 c0 short
  have fits : body.length ≤ longestBody := by
    simp only [body, List.length_cons, longestBody]
    omega
  have still : u.sweeping = false := idle
  have refuse {reply : Reply} (h : serveEdit body u = (u, reply)) : AnswersOnly edit s 0x11#8 reply.code reply.body :=
    answersOnly_of_service rfl ready fits h
  have undefined : (e.classOr .prot = none ∨ e.policyOr .restoreAnyway = none) ↔
      (given 3 = true ∧ 2 < codes.toNat / 16 % 4) ∨ (given 1 = true ∧ 1 < codes.toNat / 4 % 4) := by
    rw [EditBody.classOr_eq_none_iff, EditBody.policyOr_eq_none_iff]
    rfl
  by_cases large : 4095 < id
  · rw [if_pos large]
    exact refuse (reply := Reply.invalid .id) (by
      simp only [serveEdit, parse, still, if_pos (show 4095 < e.id from large)]
      rfl)
  rw [if_neg large]
  by_cases bad : (given 3 = true ∧ 2 < codes.toNat / 16 % 4) ∨ (given 1 = true ∧ 1 < codes.toNat / 4 % 4)
  · rw [if_pos bad]
    exact refuse (reply := Reply.invalid .badCode) (by
      simp only [serveEdit, parse, still, if_neg (show ¬4095 < e.id from large), if_pos (undefined.mpr bad)]
      rfl)
  rw [if_neg bad]
  by_cases absent : ¬∃ c ∈ s.table.circuits, c.id = id
  · rw [if_pos absent]
    have none : u.table.find e.id = none := (CircuitTable.find_eq_none_iff _ _).mpr absent
    exact refuse (reply := Reply.plain .absent) (by
      simp only [serveEdit, parse, still, if_neg (show ¬4095 < e.id from large), if_neg (undefined.not.mpr bad), none]
      rfl)
  rw [if_neg absent]
  intro c mem cid cls policy hc hp ceiling new changed
  have found : u.table.find e.id = some c := by
    rw [show e.id = c.id from cid.symm]
    exact CircuitTable.find_of_mem tables.ids_nodup mem
  have edited : c.edited e cls policy = new := by
    rw [Circuit.edited_eq (e := e) hc hp, storedLabel_eq]
    rfl
  have serve : serveEdit body u = if c.cls.changesExtra new.cls then (u, Reply.invalid .classChannel) else
      (u.editCircuit c new, Reply.done (idBytes e.id ++
        [byteOf (flagBit (c.planDiffers new) 2 + flagBit (e.givesLabel && labelCut e.label) 1)])) := by
    simp only [serveEdit, parse, still, if_neg (show ¬4095 < e.id from large), if_neg (undefined.not.mpr bad), found,
      EditBody.classOr_eq (e := e) hc, EditBody.policyOr_eq (e := e) hp, Option.getD_some, edited]
    rfl
  by_cases extra : ¬(c.cls = .extra ↔ cls = .extra)
  · rw [if_pos extra]
    exact refuse (serve.trans (if_pos ((CircuitClass.changesExtra_iff _ _).mpr extra)))
  rw [if_neg extra]
  have differs : c.planDiffers new = true ↔ changed := Circuit.planDiffers_iff c new
  have state := State.editCircuit_of_idle still c new
  have only : onlyChanges [.table, .plan] u (u.editCircuit c new) := by
    rw [state]
    exact onlyChanges_ite (onlyChanges_chain (setTable_only _ _) (startSweep_only _ _) (by decide) (by decide))
      (onlyChanges_mono (setTable_only _ _) (by decide))
  have table : (u.editCircuit c new).table = u.table.replace new := by
    rw [state]
    split_ifs <;> rfl
  refine answers_of_loaded (service := serveEdit) ready rfl fits
    (serve.trans (if_neg fun h => extra ((CircuitClass.changesExtra_iff _ _).mp h))) only (only .mgmt (by decide)) ?_
    ⟨?_, fun change => ?_, fun same => ?_⟩
  · have label16 : flagBit (e.givesLabel && labelCut e.label) 1 = if given 0 = true ∧ 16 < label.length then 1 else 0 :=
      flagBit_and_decide _ _ _
    have plan : flagBit (c.planDiffers new) 2 = if changed then 2 else 0 := by
      simp only [flagBit, differs]
    change idBytes id ++ [byteOf (_ + _)] = _
    rw [label16, plan, idBytes, wordBytes_wordOf]
    rfl
  · rw [State.answer_table, table]
    change { s.table with circuits := s.table.circuits.map fun d : Circuit => if d.id = c.id then new else d } = _
    rw [cid]
  · rw [state, if_pos (differs.mpr change)]
    rfl
  · rw [state, if_neg (fun h => same (differs.mp h))]
    rfl

end Sys2Proof.Machine
end

section
/-!
Proofs about the lookups and the walk (sections 2.8 to 2.10).
-/

namespace Sys2Proof.Machine

/-! ### READ and CHANNEL-READ (R32 to R34) -/

section Lookups

variable {s : State} {r : Ring}

/-- A record of the table is the one that its channel and any span it covers find, since no other of the channel covers that
span (R24, R34). -/
theorem tableSound.eq_of_covers {circuits : List Circuit} (h : tableSound r circuits) {c d : Circuit} (hc : c ∈ circuits)
    (hd : d ∈ circuits) (channel : c.channel = d.channel) {span : Nat} (hs : span < r.size)
    (first : r.covers (r.circuitRoute c) span = true) (second : r.covers (r.circuitRoute d) span = true) : c = d := by
  obtain ⟨-, records, -, -, apart⟩ := h
  by_contra ne
  have symmetric : Std.Symm fun a b : Circuit =>
      a.channel = b.channel → r.overlap (r.circuitRoute a) (r.circuitRoute b) = false :=
    ⟨fun a b clear same => Ring.overlap_comm (r := r) _ _ ▸ clear same.symm⟩
  have clear := apart.forall hc hd ne channel
  rw [(Ring.overlap_iff (records c hc).within (records d hd).within).mpr ⟨span, hs, first, second⟩] at clear
  cases clear

theorem State.covering_of_mem (sound : tableSound r s.table.circuits) (geo : s.geo = r) {c : Circuit}
    (mem : c ∈ s.table.circuits) {channel span : Nat} (on : c.channel = channel) (hs : span < r.size)
    (covers : r.covers (r.circuitRoute c) span = true) : s.covering channel span = some c := by
  subst geo
  cases found : s.covering channel span with
  | none =>
    have none := List.find?_eq_none.mp found c (List.mem_filter.mpr ⟨mem, by simpa using on⟩)
    exact absurd covers none
  | some d =>
    obtain ⟨hd, other⟩ := List.mem_filter.mp (List.mem_of_find?_eq_some found)
    have covered : s.geo.covers (s.geo.circuitRoute d) span = true := by simpa using List.find?_some found
    rw [sound.eq_of_covers hd mem ((by simpa using other : d.channel = channel).trans on.symm) hs covered covers]

theorem State.covering_of_none (geo : s.geo = r) {channel span : Nat}
    (none : ∀ c ∈ s.table.circuits, c.channel = channel → r.covers (r.circuitRoute c) span = false) :
    s.covering channel span = Option.none := by
  subst geo
  refine List.find?_eq_none.mpr fun c mem => ?_
  obtain ⟨mem, on⟩ := List.mem_filter.mp mem
  simp [none c mem (by simpa using on)]

theorem Ring.route_ends (r : Ring) (pa pb : Nat) (d : Direction) :
    (r.route pa pb d).source = pa ∧ (r.route pa pb d).destination = pb := by cases d <;> exact ⟨rfl, rfl⟩

theorem labelBytes_eq (label : Option (List Byte)) :
    labelBytes label = byteOf (label.getD []).length :: label.getD [] := by cases label <;> rfl

end Lookups

/-- Settles O13: the id index finds the one record of an id, and a channel and a span the one record that covers it there. -/
theorem lookupsAnswerRecords : Obligations.LookupsAnswerRecords := by
  unfold Obligations.LookupsAnswerRecords
  intro planBytes
  have plan (s : State) (id : Nat) : planFields (s.plan.actionFor id) s.sweeping = planBytes s id := by
    simp only [planBytes, planFields, planByte, restoredBytes]
    cases s.plan.actionFor id with
    | none => rfl
    | some a =>
      cases a with
      | squelched why => cases why <;> rfl
      | carried => rfl
      | down => rfl
      | restored hops latency late => rfl
      | preempted => rfl
      | outside => rfl
  refine ⟨fun s r i1 i0 ready tables ring => ?_, fun s r channel west ready tables ring => ?_⟩
  · intro id
    have geo : s.geo = r := State.geo_of_ring ring
    have refuse {reply : Reply} (h : serveRead [i1, i0] (s.deliver (.read [i1, i0])) = (s.deliver (.read [i1, i0]), reply)) :
        AnswersOnly (.read [i1, i0]) s 0x13#8 reply.code reply.body :=
      answersOnly_of_service rfl ready (by simp [longestBody]) h
    by_cases large : 4095 < id
    · rw [if_pos large]
      exact refuse (reply := Reply.invalid .value) (if_pos large)
    rw [if_neg large]
    by_cases absent : ¬∃ c ∈ s.table.circuits, c.id = id
    · rw [if_pos absent]
      have none : s.table.find id = none := (CircuitTable.find_eq_none_iff _ _).mpr absent
      exact refuse (reply := Reply.plain .absent) ((if_neg large).trans (by rw [State.deliver_table, none]))
    rw [if_neg absent]
    intro c mem cid pa pb source destination route label
    have found : s.table.find id = some c := by
      rw [← cid]
      exact CircuitTable.find_of_mem tables.ids_nodup mem
    have answer := refuse (reply := Reply.done ((s.deliver (.read [i1, i0])).readAnswer c))
      ((if_neg large).trans (by rw [State.deliver_table, found]))
    have path : r.circuitRoute c = route := by
      rw [Ring.circuitRoute, source, destination]
      rfl
    obtain ⟨first, second⟩ := r.route_ends pa pb c.direction
    have bytes : (s.deliver (.read [i1, i0])).readAnswer c = s.readAnswer c := rfl
    rw [bytes, State.readAnswer, geo, path, labelBytes_eq, cid, plan, idBytes, wordBytes_wordOf, first, second,
      Ring.workingLatency, path] at answer
    exact answer
  · intro read pending
    have geo : s.geo = r := State.geo_of_ring ring
    obtain ⟨-, -, records, -⟩ := tables.of_ring ring
    let i := Instr.channelRead [channel, west]
    have refuse {reply : Reply} (h : serveChannelRead [channel, west] (s.deliver i) = (s.deliver i, reply)) :
        read reply.code reply.body := answersOnly_of_service rfl ready (by simp [longestBody]) h
    by_cases bad : 79 < channel.toNat ∨ r.positionOf (west.toNat % 64) = none
    · rw [if_pos bad]
      refine refuse (reply := Reply.invalid .value) ?_
      simp only [serveChannelRead, State.deliver_geo, geo, idOfByte]
      cases known : r.positionOf (west.toNat % 64) with
      | none => rfl
      | some span => exact if_pos (bad.resolve_right (by simp [known]))
    rw [if_neg bad]
    intro span known
    have serve : serveChannelRead [channel, west] (s.deliver i) =
        (s.deliver i, Reply.done (s.channelAnswer (s.covering channel.toNat span))) := by
      have ok : ¬79 < channel.toNat := fun h => bad (.inl h)
      simp only [serveChannelRead, State.deliver_geo, geo, idOfByte, known, if_neg ok]
      rfl
    have pend : flagBit s.sweeping 1 = pending := rfl
    refine ⟨fun c mem on covers => ?_, fun none => ?_⟩
    · have answer := refuse serve
      rw [State.covering_of_mem records geo mem on (Ring.positionOf_lt known) covers, State.channelAnswer, geo, plan, pend]
        at answer
      exact answer
    · have answer := refuse serve
      rw [State.covering_of_none geo none, State.channelAnswer, pend] at answer
      exact answer

/-! ### WALK (R35 to R40) -/

section Walk

variable {s : State}

theorem Ring.lastPlace_eq (r : Ring) {entries : List Circuit} {otherwise : Place}
    (given : entries = [] → otherwise = .start) : r.lastPlace entries otherwise =
      match entries.getLast? with
      | some c => .mark c.channel (r.startSpan c)
      | none => .start := by
  unfold Ring.lastPlace
  cases last : entries.getLast? with
  | none => exact given (List.getLast?_eq_none_iff.mp last)
  | some c => rfl

/-- The entries a walk takes, with and without the wrap flag (R37, R38). -/
def walkEntries (wrap : Bool) (ahead again : List Circuit) : List Circuit :=
  if 4 ≤ ahead.length then ahead.take 4 else if wrap then ahead ++ again.take (4 - ahead.length) else ahead

theorem State.walkTakes_entries (s : State) (k : Cursor) : (s.walkTakes k).entries =
    walkEntries k.wrap ((s.table.window k.lo k.hi).filter (s.geo.liesAfter k.place))
      ((s.table.window k.lo k.hi).filter fun c => !s.geo.liesAfter k.place c) := by
  unfold State.walkTakes walkEntries Ring.walkRound Ring.walkOn
  dsimp only
  split_ifs <;> rfl

theorem State.walkTakes_place (s : State) (k : Cursor) : (s.walkTakes k).place =
    if 4 ≤ ((s.table.window k.lo k.hi).filter (s.geo.liesAfter k.place)).length ∨ k.wrap = true then
      match (s.walkTakes k).entries.getLast? with
      | some c => .mark c.channel (s.geo.startSpan c)
      | none => .start
    else .finish := by
  rw [State.walkTakes_entries, walkEntries]
  unfold State.walkTakes Ring.walkRound Ring.walkOn
  dsimp only
  by_cases full : 4 ≤ ((s.table.window k.lo k.hi).filter (s.geo.liesAfter k.place)).length
  · have some : ((s.table.window k.lo k.hi).filter (s.geo.liesAfter k.place)).take 4 ≠ [] := by
      intro none
      have length := congrArg List.length none
      rw [List.length_take, List.length_nil] at length
      omega
    cases k.wrap <;> simpa only [full, if_true, true_or, ite_self] using Ring.lastPlace_eq _ fun none => absurd none some
  · cases k.wrap
    · simp [full]
    · simpa only [full, if_true, if_false, or_true] using Ring.lastPlace_eq _ fun _ => rfl

theorem State.walkTakes_flags (s : State) (k : Cursor) :
    let full := 4 ≤ ((s.table.window k.lo k.hi).filter (s.geo.liesAfter k.place)).length
    flagBit (s.walkTakes k).atEnd 8 = (if full ∨ k.wrap = true then 0 else 8) ∧
      flagBit (s.walkTakes k).wrapped 4 = if k.wrap = true ∧ ¬full then 4 else 0 := by
  unfold State.walkTakes Ring.walkRound Ring.walkOn
  dsimp only
  by_cases full : 4 ≤ ((s.table.window k.lo k.hi).filter (s.geo.liesAfter k.place)).length <;> cases k.wrap <;>
    simp [full, flagBit]

theorem actionByte_eq (a : Option Action) : actionByte a = byteOf ((a.map Action.code).getD 0 * 16) := by cases a <;> rfl

theorem serveWalk_of_window {lo hi flags : Byte} (window : ¬(79 < lo.toNat ∨ 79 < hi.toNat ∨ hi.toNat < lo.toNat)) :
    serveWalk [lo, hi, flags] s =
      s.walkFrom (if flags.toNat / 2 % 2 = 1 then newCursor lo.toNat hi.toNat (flags.toNat % 2 == 1)
        else s.table.cursor.getD (newCursor lo.toNat hi.toNat (flags.toNat % 2 == 1))) := by
  have wrap : bitOf flags 0 = (flags.toNat % 2 == 1) := by simp [bitOf]
  have fresh : bitOf flags 1 = decide (flags.toNat / 2 % 2 = 1) := rfl
  simp only [serveWalk, if_neg window, wrap, fresh]
  by_cases h : flags.toNat / 2 % 2 = 1
  · simp [h]
  · simp only [h, decide_false, if_false]
    cases s.table.cursor <;> rfl

end Walk

/-- Settles O14: a walk takes the records of the window that lie after the place, and with the wrap flag goes on from the
start. -/
theorem walkTakesEntries : Obligations.WalkTakesEntries := by
  unfold Obligations.WalkTakesEntries
  intro s lo hi flags walk ready named
  have run : exec walk s = s.live fun t => t.request walk 0x15#8 [lo, hi, flags] serveWalk := by
    obtain rfl | rfl := named <;> rfl
  by_cases bad : 79 < lo.toNat ∨ 79 < hi.toNat ∨ hi.toNat < lo.toNat
  · rw [if_pos bad]
    exact answersOnly_of_service (a := Reply.invalid .value) run ready (by simp [longestBody]) (if_pos bad)
  rw [if_neg bad]
  intro fresh k window ahead again full entries place flagsByte
  have taken : (s.walkTakes k).entries = entries := State.walkTakes_entries s k
  have reached : (s.walkTakes k).place = place := by
    rw [State.walkTakes_place, taken]
    rfl
  obtain ⟨atEnd, wrapped⟩ := State.walkTakes_flags s k
  refine answers_of_loaded ready run (by simp [longestBody]) (serveWalk_of_window bad) (setTable_only _ _) rfl ?_ ?_
  · change s.walkAnswer (s.walkTakes k) k.disturbed = _
    have bits : flagBit (s.walkTakes k).atEnd 8 + flagBit (s.walkTakes k).wrapped 4 + flagBit k.disturbed 2
        + flagBit s.sweeping 1 = flagsByte := by
      rw [atEnd, wrapped]
      rfl
    rw [State.walkAnswer, bits, taken]
    simp only [State.walkEntry, WalkEntry.bytes, actionByte_eq]
    rfl
  · change { s.table with cursor := some { k with place := (s.walkTakes k).place, disturbed := false } } = _
    rw [reached]

end Sys2Proof.Machine
end

section
/-!
Proofs about the soft RESTART (section 11.5): what it clears and keeps, and how the held blocks start at a hold-off of 0.
-/

namespace Sys2Proof.Machine

/-! ### Changes of a side's parts -/

section Parts

variable {s : State}

/-- What a change of the parts of side x leaves of each side: the parts it gives, but for what a pass drops. -/
theorem changeLocal_drops (s : State) (x : Side) (l : LocalRequest) : s.hearing.Drops x
    { l with echo := s.hearing.echoAfter x (s.requests.sides.get x) l } ((s.changeLocal x l).requests.sides.get x) := by
  have drops := deriveFrom_drops s
    (s.requests.sides.set x { l with echo := s.hearing.echoAfter x (s.requests.sides.get x) l }) x
  rw [Pair.get_set_same] at drops
  exact drops

theorem changeLocal_drops_of_ne (s : State) {x y : Side} (ne : y ≠ x) (l : LocalRequest) :
    s.hearing.Drops y (s.requests.sides.get y) ((s.changeLocal x l).requests.sides.get y) := by
  have drops := deriveFrom_drops s
    (s.requests.sides.set x { l with echo := s.hearing.echoAfter x (s.requests.sides.get x) l }) y
  rw [Pair.get_set, if_neg ne] at drops
  exact drops

/-- The line part of a declared level other than CLEAR (R71). -/
def Level.linePart (level : Level) : LinePart := if level = .dark then .dark else .dim

theorem Level.linePart_ne_settle (level : Level) : level.linePart ≠ .settle := by cases level <;> decide

theorem requestTakesLevel_of_raised {x : Side} {level : Level} (raised : level ≠ .clear) :
    s.requestTakesLevel x level =
      s.changeLocal x { s.requests.sides.get x with line := level.linePart, settleTimer := none } := by
  cases level with
  | clear => exact absurd rfl raised
  | dim => rfl
  | dark => rfl

end Parts

/-! ### The start of the held blocks at a hold-off of 0 (R47, R52) -/

/-- A side that started at a hold-off of 0: declared at its raw level, with the line part of that level. -/
structure StartedAtOnce (x : Side) (t : State) : Prop where
  monitor : t.monitors.get x =
    { raw := t.rawLevel x, declared := t.rawLevel x, dimTimer := none, darkTimer := none, soakTimer := none }
  line : (t.requests.sides.get x).line = (t.rawLevel x).linePart
  operator : (t.requests.sides.get x).operator = .none

/-- A side that is held yet, in a LOADED part with a hold-off of 0. -/
structure HeldSide (x : Side) (s : State) : Prop where
  running : s.running = true
  holdOff : s.settings.holdOff = 0
  monitor : s.monitors.get x = Monitor.held
  down : (s.ports.get x).link = .down
  idle : s.requests.sides.get x = LocalRequest.idle

section Start

variable {s : State} {x y : Side}

theorem monitorAfter_held_at_once (raw : s.rawLevel x ≠ .clear) (holdOff : s.settings.holdOff = 0) :
    s.monitorAfter Monitor.held (s.rawLevel x) =
      { raw := s.rawLevel x, declared := s.rawLevel x, dimTimer := none, darkTimer := none, soakTimer := none } := by
  cases level : s.rawLevel x with
  | clear => exact absurd level raw
  | dim =>
    simp [State.monitorAfter, State.raisedAtOnce, holdOff, Monitor.held, State.dimTimerAfter, State.darkTimerAfter,
      State.soakTimerAfter]
  | dark =>
    simp [State.monitorAfter, State.raisedAtOnce, holdOff, Monitor.held, State.dimTimerAfter, State.darkTimerAfter,
      State.soakTimerAfter]

/-- A held monitor that starts at a hold-off of 0 is declared at its raw level. -/
theorem formRaw_of_held_at_once (held : HeldSide x s) : s.formRaw x =
    (s.setMonitor x (s.monitorAfter Monitor.held (s.rawLevel x))).requestTakesLevel x (s.rawLevel x) := by
  have raw := rawLevel_ne_clear_of_down held.down
  have changed : ¬(!s.running || s.rawLevel x == (s.monitors.get x).raw) = true := by
    simp [held.running, held.monitor, Monitor.held, raw]
  rw [State.formRaw, if_neg changed, held.monitor]
  have declared : ((s.setMonitor x (s.monitorAfter Monitor.held (s.rawLevel x))).monitors.get x).declared = s.rawLevel x := by
    rw [State.setMonitor, State.setMonitors_monitors, Pair.get_set_same, monitorAfter_held_at_once raw held.holdOff]
  rw [State.declare, declared]
  exact if_neg raw

theorem formRaw_starts_at_once (held : HeldSide x s) : StartedAtOnce x (s.formRaw x) := by
  have raw := rawLevel_ne_clear_of_down held.down
  have formed := formRaw_monitors_of_changed held.running (x := x) (by simpa [held.monitor, Monitor.held] using raw)
  have parts : ((s.formRaw x).requests.sides.get x).line = (s.rawLevel x).linePart ∧
      ((s.formRaw x).requests.sides.get x).operator = .none := by
    rw [formRaw_of_held_at_once held, requestTakesLevel_of_raised raw]
    let u := s.setMonitor x (s.monitorAfter Monitor.held (s.rawLevel x))
    have operator : (u.requests.sides.get x).operator = .none := congrArg LocalRequest.operator held.idle
    have firm := (changeLocal_drops u x
      { u.requests.sides.get x with line := (s.rawLevel x).linePart, settleTimer := none }).eq_of_firm
      (Level.linePart_ne_settle _) (by rw [operator]; decide)
    exact ⟨congrArg LocalRequest.line firm, (congrArg LocalRequest.operator firm).trans operator⟩
  refine ⟨?_, ?_, parts.2⟩
  · rw [(formRaw_works s x).rawLevel, formed, Pair.get_set_same, held.monitor, monitorAfter_held_at_once raw held.holdOff]
  · rw [(formRaw_works s x).rawLevel, parts.1]

/-- The start of one side leaves the other side's parts: a line part that is not a SETTLE and an operator part that is not an
ASK. -/
theorem formRaw_parts_of_ne (ne : y ≠ x) (line : (s.requests.sides.get y).line ≠ .settle)
    (operator : (s.requests.sides.get y).operator ≠ .ask) (held : HeldSide x s) :
    (s.formRaw x).requests.sides.get y = s.requests.sides.get y := by
  rw [formRaw_of_held_at_once held, requestTakesLevel_of_raised (rawLevel_ne_clear_of_down held.down)]
  exact (changeLocal_drops_of_ne _ ne _).eq_of_firm line operator

theorem HeldSide.formRaw (held : HeldSide y s) (ne : y ≠ x) (starts : HeldSide x s) : HeldSide y (s.formRaw x) where
  running := (formRaw_works s x).running.trans held.running
  holdOff := by
    rw [(formRaw_works s x).settings]
    exact held.holdOff
  monitor := by
    rw [formRaw_monitor_of_ne ne]
    exact held.monitor
  down := by
    rw [(formRaw_works s x).link]
    exact held.down
  idle := by
    rw [formRaw_parts_of_ne ne (by rw [held.idle]; decide) (by rw [held.idle]; decide) starts]
    exact held.idle

theorem StartedAtOnce.formRaw (started : StartedAtOnce x s) (ne : x ≠ y) (held : HeldSide y s) :
    StartedAtOnce x (s.formRaw y) := by
  have parts := formRaw_parts_of_ne ne (by rw [started.line]; exact Level.linePart_ne_settle _)
    (by rw [started.operator]; decide) held
  refine ⟨?_, ?_, ?_⟩
  · rw [(formRaw_works s y).rawLevel, formRaw_monitor_of_ne ne]
    exact started.monitor
  · rw [(formRaw_works s y).rawLevel, parts]
    exact started.line
  · rw [parts]
    exact started.operator

/-- Both sides start at a hold-off of 0, in either order. -/
theorem startBlocks_at_once (running : s.running = true) (holdOff : s.settings.holdOff = 0) (x : Side) :
    StartedAtOnce x s.startBlocks := by
  have held (y : Side) : HeldSide y s.freshBlocks.dropOrder :=
    ⟨running, holdOff, by cases y <;> rfl, by cases y <;> rfl, by cases y <;> rfl⟩
  have both {y z : Side} (ne : y ≠ z) : StartedAtOnce x ((s.freshBlocks.dropOrder.formRaw y).formRaw z) := by
    have second := (held z).formRaw ne.symm (held y)
    obtain rfl | rfl : x = y ∨ x = z := by cases x <;> cases y <;> cases z <;> simp_all
    · exact (formRaw_starts_at_once (held x)).formRaw ne second
    · exact formRaw_starts_at_once second
  unfold State.startBlocks State.eachSide
  dsimp only
  split_ifs
  · exact both (by decide)
  · exact both (by decide)

/-- What the held blocks hold after their start at a hold-off other than 0. -/
structure Started (x : Side) (t : State) (holdOff : Timer) : Prop where
  monitor : t.monitors.get x =
    { raw := t.rawLevel x, declared := .clear, dimTimer := holdOff,
      darkTimer := if t.rawLevel x = .dark then holdOff else none, soakTimer := none }
  transmit : (t.ports.get x).transmit = some (t.geo.ownQuiet x)
  switch : t.protocol.sides.get x =
    { decided := .idle, realised := .idle, answer := .stopped, span := some SpanRecord.quiet, standing := none,
      choice := some (t.geo.ownQuiet x) }

theorem startBlocks_started (running : s.running = true) (holdOff : s.settings.holdOff ≠ 0) :
    s.startBlocks.requests.records = List.replicate s.startBlocks.geo.size SpanRecord.quiet ∧
      ∀ x : Side, Started x s.startBlocks s.holdOffTimer := by
  rw [startBlocks_of_holdOff running holdOff]
  refine ⟨rfl, fun x => ⟨?_, ?_, ?_⟩⟩
  · rw [State.setMonitors_monitors, Pair.get_each]
    rfl
  · cases x <;> rfl
  · cases x <;> rfl

end Start

/-! ### RESTART (R182 to R184) -/

section Restart

variable {s : State}

theorem softRestart_of_running (running : s.running = true) : s.softRestart = s.clearForRestart.startBlocks := if_pos running

theorem softRestart_of_not_running (held : s.running = false) :
    s.softRestart = s.clearForRestart.holdBlocks.beginLoad := if_neg (by simp [held])

/-- What a RESTART clears and keeps in every load state (R182, R183). -/
theorem softRestart_clears (s : State) : s.softRestart.table = { circuits := s.table.circuits, cursor := none } ∧
    s.softRestart.fabric = { s.fabric with committed := none, inFlight := none } ∧ s.softRestart.gateOpen = false ∧
    s.softRestart.plan.committed = none ∧ ∀ x : Side, (s.softRestart.ports.get x).standing = none ∧
      (s.softRestart.ports.get x).run = none ∧ (s.softRestart.ports.get x).link = .down ∧
      (s.softRestart.ports.get x).downTimer = none := by
  have gate (loader : s.softRestart.loader.armed = false) : s.softRestart.gateOpen = false := by
    simp [State.gateOpen, loader]
  by_cases running : s.running = true
  · have armed := gate (by rw [softRestart_loader_of_running running])
    rw [softRestart_of_running running] at *
    have only := startBlocks_only s.clearForRestart
    have works := startBlocks_works s.clearForRestart
    refine ⟨only .table (by decide), only .fabric (by decide), armed, works.committed, fun x => ?_⟩
    rw [works.standing, works.run, works.link, works.downTimer]
    cases x <;> exact ⟨rfl, rfl, rfl, rfl⟩
  · have armed := gate (by rw [softRestart_loader_of_not_running running])
    rw [softRestart_of_not_running (by simpa using running)] at *
    exact ⟨rfl, rfl, armed, rfl, fun x => by cases x <;> exact ⟨rfl, rfl, rfl, rfl⟩⟩

theorem softRestart_of_holdOff (running : s.running = true) (holdOff : s.settings.holdOff ≠ 0) : s.softRestart =
    s.clearForRestart.freshBlocks.dropOrder.setMonitors (Pair.each s.clearForRestart.freshBlocks.startedMonitor) :=
  (softRestart_of_running running).trans (startBlocks_of_holdOff running holdOff)

/-- The Plan Engine and the Attention Unit after a RESTART that hands nothing on, and a Request Unit with nothing asked for. -/
structure RestartQuiet (s t : State) : Prop where
  plan : t.plan = PlanEngine.idle
  attention : t.attention = s.attention.clearAll
  served : t.requests.served = []
  role : t.requests.role = .idle
  switchServed : t.protocol.served = []
  switchRole : t.protocol.role = .idle
  sides : ∀ x : Side, t.requests.sides.get x = LocalRequest.idle

theorem softRestart_quiet (h : s.running = false ∨ s.settings.holdOff ≠ 0) : RestartQuiet s s.softRestart := by
  cases running : s.running with
  | true =>
    rw [softRestart_of_holdOff running (h.resolve_left (by simp [running]))]
    exact ⟨rfl, rfl, rfl, rfl, rfl, rfl, fun x => by cases x <;> rfl⟩
  | false =>
    rw [softRestart_of_not_running running]
    exact ⟨rfl, rfl, rfl, rfl, rfl, rfl, fun x => by cases x <;> rfl⟩

/-- The blocks held again until the next load (R44, R66, R91, R110). -/
structure RestartHeld (t : State) : Prop where
  records : t.requests.records = []
  sides : ∀ x : Side, t.monitors.get x = Monitor.held ∧ (t.ports.get x).transmit = none ∧
    t.protocol.sides.get x = SwitchSide.held

theorem softRestart_held (h : s.running = false) : RestartHeld s.softRestart := by
  rw [softRestart_of_not_running h]
  exact ⟨rfl, fun x => by cases x <;> exact ⟨rfl, rfl, rfl⟩⟩

theorem clearAll_attn (a : Attention) : a.clearAll.attn = false := rfl

end Restart

/-- Settles O8: the cleared pieces, and the held blocks started afresh in a LOADED part and held in any other. -/
theorem restartClearsAndKeeps : Obligations.RestartClearsAndKeeps := by
  unfold Obligations.RestartClearsAndKeeps
  intro s ready
  let u := s.deliver (.restart [])
  have loaded_iff : u.running = true ↔ s.loader.load = .loaded := by
    change (s.loader.load == .loaded) = true ↔ _
    simp
  have out {h : s.loader.load ≠ .loaded} : u.running = false := by
    simpa using loaded_iff.not.mpr h
  obtain ⟨table, fabric, gate, committed, ports⟩ := softRestart_clears u
  have only := softRestart_only u
  have loader : u.softRestart.loader = if s.loader.load = .loaded then { s.loader with armed := false }
      else { s.beginLoad.loader with armed := false } := by
    split_ifs with loaded
    · exact softRestart_loader_of_running (loaded_iff.mpr loaded)
    · exact softRestart_loader_of_not_running (loaded_iff.not.mpr loaded)
  have quiet (h : s.loader.load ≠ .loaded ∨ s.settings.holdOff ≠ 0) : RestartQuiet u u.softRestart :=
    softRestart_quiet (h.imp (fun h => out (h := h)) id)
  have held (h : s.loader.load ≠ .loaded) : RestartHeld u.softRestart := softRestart_held (out (h := h))
  have started (loaded : s.loader.load = .loaded) (holdOff : s.settings.holdOff ≠ 0) :=
    startBlocks_started (s := u.clearForRestart) (loaded_iff.mpr loaded) holdOff
  have atOnce (loaded : s.loader.load = .loaded) (holdOff : s.settings.holdOff = 0) :=
    startBlocks_at_once (s := u.clearForRestart) (loaded_iff.mpr loaded) holdOff
  have eq (loaded : s.loader.load = .loaded) : u.clearForRestart.startBlocks = u.softRestart :=
    (softRestart_of_running (loaded_iff.mpr loaded)).symm
  have serve : serveRestart [] u = (u.softRestart, Reply.done [byteOf u.softRestart.loader.load.code]) := rfl
  generalize u.softRestart = v at *
  refine answers_of_taken ready rfl (by simp) rfl serve (onlyChanges_mono only (by decide)) (only .mgmt (by decide)) ?_
    ⟨loader, table, fabric, gate, committed, ports, fun h => ?_, fun h => ?_, fun loaded holdOff => ?_,
      fun loaded holdOff x => ?_⟩
  · change [byteOf v.loader.load.code] = _
    rw [loader]
    split_ifs with loaded
    · rw [loaded]
      rfl
    · rfl
  · obtain ⟨plan, attention, served, role, switchServed, switchRole, sides⟩ := quiet h
    have attn : v.attn = false := by rw [State.attn, attention, clearAll_attn]
    exact ⟨plan, attention, attn, served, role, switchServed, switchRole, sides⟩
  · obtain ⟨records, sides⟩ := held h
    exact ⟨records, sides⟩
  · have blocks := started loaded holdOff
    rw [eq loaded] at blocks
    obtain ⟨records, sides⟩ := blocks
    exact ⟨records, fun x => ⟨(sides x).monitor, (sides x).transmit, (sides x).switch⟩⟩
  · have side := atOnce loaded holdOff x
    rw [eq loaded] at side
    exact ⟨side.monitor, side.line, side.operator⟩

end Sys2Proof.Machine
end

section
/-!
Proofs about the Line Monitors and the Link Receivers (chapters 3 and 4): a receiver change, the frames that are discarded, and
the end of a link.
-/

namespace Sys2Proof.Machine

/-! ### Receiver changes (R42 to R48) -/

section Receivers

variable {s : State} {x : Side}

/-- A raw change at a hold-off other than 0 moves the timers and leaves the declared level (R45, R46, R48). -/
theorem monitorAfter_of_holdOff (holdOff : s.settings.holdOff ≠ 0) (m : Monitor) (raw : Level) : s.monitorAfter m raw =
    { raw := raw, declared := m.declared
      dimTimer := if raw ≠ .clear ∧ m.declared = .clear then (if m.dimTimer = none then s.holdOffTimer else m.dimTimer)
        else none
      darkTimer := if raw = .dark ∧ m.declared ≠ .dark then s.holdOffTimer else none
      soakTimer := s.soakTimerAfter { m with raw := raw } } := by
  simp only [State.monitorAfter, State.raisedAtOnce, if_pos holdOff, State.dimTimerAfter, State.darkTimerAfter,
    State.soakTimerAfter, Monitor.mk.injEq, true_and, and_true]
  by_cases runs : raw ≠ .clear ∧ m.declared = .clear
  · rw [if_pos runs, if_neg (by tauto)]
    cases m.dimTimer <;> rfl
  · rw [if_neg runs, if_pos (by tauto)]

/-- A raise at a hold-off of 0 is declared at once (R47). -/
theorem monitorAfter_at_once (holdOff : s.settings.holdOff = 0) {m : Monitor} {raw : Level} (raised : m.declared.code < raw.code)
    (stopped : m.dimTimer = none) : s.monitorAfter m raw =
      { raw := raw, declared := raw, dimTimer := none, darkTimer := none, soakTimer := none } := by
  cases raw with
  | clear => exact absurd raised (Nat.not_lt_zero _)
  | dim =>
    have clear : m.declared = .clear := by
      cases level : m.declared <;> simp_all [Level.code]
    simp [State.monitorAfter, State.raisedAtOnce, holdOff, clear, stopped, State.dimTimerAfter, State.darkTimerAfter,
      State.soakTimerAfter]
  | dark =>
    have below : m.declared ≠ .dark := fun dark => by simp [dark] at raised
    simp [State.monitorAfter, State.raisedAtOnce, holdOff, below, State.dimTimerAfter, State.darkTimerAfter,
      State.soakTimerAfter]

/-- A raw change at a hold-off other than 0 declares nothing. -/
theorem formRaw_of_holdOff (running : s.running = true) (changed : s.rawLevel x ≠ (s.monitors.get x).raw)
    (holdOff : s.settings.holdOff ≠ 0) :
    s.formRaw x = s.setMonitor x (s.monitorAfter (s.monitors.get x) (s.rawLevel x)) := by
  have forms : ¬(!s.running || s.rawLevel x == (s.monitors.get x).raw) = true := by simp [running, changed]
  rw [State.formRaw, if_neg forms, State.declare]
  refine if_pos ?_
  rw [State.setMonitor, State.setMonitors_monitors, Pair.get_set_same, monitorAfter_of_holdOff holdOff]

end Receivers

/-- Settles O18: the raw level is formed from the changed lines, and the monitor moves as Table 15 says. -/
theorem receiverChangeFormsRaw : Obligations.ReceiverChangeFormsRaw := by
  unfold Obligations.ReceiverChangeFormsRaw
  intro s x los lock grade
  let u := s.setPins (s.pins.withReceiver x ⟨los, lock, grade⟩)
  have pins : onlyChanges [.pins] s u := setPins_only s _
  have works := formRaw_works u x
  refine ⟨u.formRaw x, rfl, onlyChanges_chain pins (formRaw_only u x) (by decide) (by decide), ?_⟩
  beta_reduce
  intro m raw holdOff
  have formed : u.rawLevel x = raw := by
    have receiver : u.pins.receivers.get x = ⟨los, lock, grade⟩ := Pair.get_set_same _ _ _
    simp only [State.rawLevel, receiver, raw]
    simp
    rfl
  refine ⟨works.pins, fun still => ?_, fun loaded => ⟨?_, ?_, fun changed hold => ?_, fun changed zero raised stopped => ?_⟩⟩
  · have same : u.formRaw x = u := by
      obtain out | same := still
      · exact formRaw_of_not_running (s := u) (by simpa [State.running] using (show u.loader.load ≠ .loaded from out)) x
      · exact formRaw_of_same (formed.trans same)
    rw [same]
    exact pins
  all_goals have running : u.running = true := by simpa [State.running] using (show u.loader.load = .loaded from loaded)
  · rw [formRaw_raw running x, works.rawLevel, formed]
  · rw [formRaw_monitor_of_ne (Side.opposite_ne x)]
    rfl
  · have change : u.rawLevel x ≠ (u.monitors.get x).raw := formed ▸ changed
    rw [formRaw_of_holdOff running change hold]
    refine ⟨onlyChanges_chain pins (setMonitor_only u x _) (by decide) (by decide), ?_⟩
    rw [State.setMonitor, State.setMonitors_monitors, Pair.get_set_same, monitorAfter_of_holdOff (s := u) hold, formed]
    rfl
  · have change : u.rawLevel x ≠ (u.monitors.get x).raw := formed ▸ changed
    rw [formRaw_monitors_of_changed running change, Pair.get_set_same, formed]
    exact monitorAfter_at_once zero raised stopped

/-! ### Frames that are discarded (R57 to R59) -/

section Frames

variable {s : State} {r : Ring}

/-- The reading of a frame with its delimiters in place (R57, R164). -/
theorem Ring.sortFrame_of_framed (r : Ring) (b1 b2 b3 c1 c0 : Byte) {rest : List Byte} (fill : rest.headD 0xFF#8 = 0xFF#8) :
    r.sortFrame (0x4E#8 :: b1 :: b2 :: b3 :: c1 :: c0 :: 0x72#8 :: rest) =
      if wordOf c1 c0 = crc16 [b1, b2, b3] then r.checkNotice ⟨b1, b2, b3, wordOf c1 c0⟩ else .bad .check := by
  have framed : deframe (0x4E#8 :: b1 :: b2 :: b3 :: c1 :: c0 :: 0x72#8 :: rest) = some ⟨b1, b2, b3, wordOf c1 c0⟩ := by
    simp only [deframe, fill]
    rfl
  rw [Ring.sortFrame, framed]
  by_cases check : wordOf c1 c0 = crc16 [b1, b2, b3]
  · simp [ArrivedFrame.checks, check]
  · simp [ArrivedFrame.checks, check]

theorem deframe_eq_none {frame : List Byte}
    (unframed : ∀ b1 b2 b3 c1 c0 rest, frame ≠ 0x4E#8 :: b1 :: b2 :: b3 :: c1 :: c0 :: 0x72#8 :: rest ∨
      rest.headD 0xFF#8 ≠ 0xFF#8) : deframe frame = none := by
  unfold deframe
  split
  next start b1 b2 b3 c1 c0 stop rest =>
    refine if_neg fun framed => ?_
    simp only [Bool.and_eq_true, beq_iff_eq] at framed
    obtain ⟨⟨rfl, rfl⟩, fill⟩ := framed
    exact (unframed b1 b2 b3 c1 c0 rest).elim (absurd rfl) (absurd fill)
  next => rfl

theorem spanJoining_eq_none_iff (a b : Nat) : r.spanJoining a b = none ↔ b ≠ r.next a ∧ a ≠ r.next b := by
  unfold Ring.spanJoining
  split_ifs <;> simp_all

theorem style_ne_iff (f : ArrivedFrame) (style : MapStyle) : f.style ≠ style ↔ f.first.toNat / 8 % 2 ≠ style.code := by
  unfold ArrivedFrame.style bitOf
  obtain even | odd : f.first.toNat / 8 % 2 = 0 ∨ f.first.toNat / 8 % 2 = 1 := by omega
  · cases style <;> simp [even, MapStyle.code]
  · cases style <;> simp [odd, MapStyle.code]

/-- What the checks of R58 and R59 reject a frame with, once its check has passed. -/
theorem Ring.checkNotice_of_malformed {f : ArrivedFrame} (tag : f.ringTag = r.ringTag) (style : f.style = r.style)
    {a b : Nat} (first : r.positionOf f.origin = some a) (second : r.positionOf f.target = some b)
    (malformed : r.spanJoining a b = none ∨ f.origin = r.selfId ∨ f.kindCode = 7 ∨ f.stateCode = 3) :
    r.checkNotice f = .rejected .malformed f.origin := by
  unfold Ring.checkNotice
  rw [if_neg (not_not.mpr tag), if_neg (not_not.mpr style), first, second]
  dsimp only
  split
  next span kind state joins kinds states =>
    obtain apart | self | seven | three := malformed
    · rw [apart] at joins
      cases joins
    · exact if_pos self
    · rw [seven] at kinds
      cases kinds
    · rw [three] at states
      cases states
  next => rfl

theorem Ring.checkNotice_of_unknown {f : ArrivedFrame} (tag : f.ringTag = r.ringTag) (style : f.style = r.style)
    (unknown : r.positionOf f.origin = none ∨ r.positionOf f.target = none) :
    r.checkNotice f = .rejected .unknownNode f.origin := by
  unfold Ring.checkNotice
  rw [if_neg (not_not.mpr tag), if_neg (not_not.mpr style)]
  split
  next first second =>
    rw [first, second] at unknown
    simp at unknown
  next => rfl

end Frames

/-- Settles O20: the checks in their order name the fault of a frame, and a frame with one is discarded. -/
theorem badFramesAreDiscarded : Obligations.BadFramesAreDiscarded := by
  unfold Obligations.BadFramesAreDiscarded
  intro s x frame discarded
  refine ⟨fun unloaded => ?_, fun loaded => ?_⟩
  · have out : s.running = false := by simpa [State.running] using unloaded
    change s.live (fun t => t.receive x frame) = _
    rw [State.live]
    congr 1
    refine ite_eq_left_iff.mpr fun _ => ?_
    rw [State.receive, out]
    rfl
  have running : s.running = true := by simpa [State.running] using loaded
  have group : linkGroup x = if x = .east then .linkE else .linkW := by cases x <;> rfl
  have discard {kind : FaultKind} {detail : Nat} (received : s.receive x frame = s.discardFrame x kind detail) :
      discarded kind detail := by
    refine ⟨_, exec_of_live (by simp [loaded]) (fun t => t.receive x frame) rfl, ?_⟩
    rw [received]
    exact ⟨discardFrame_only s x kind detail, rfl, by rw [← group]; rfl⟩
  have bad {kind : FaultKind} (sorted : s.geo.sortFrame frame = .bad kind) : discarded kind 0 :=
    discard (by rw [State.receive, running, sorted]; rfl)
  have rejected {kind : FaultKind} {origin : Nat} (sorted : s.geo.sortFrame frame = .rejected kind origin) :
      discarded kind origin := discard (by rw [State.receive, running, sorted]; rfl)
  refine ⟨fun unframed => bad (by rw [Ring.sortFrame, deframe_eq_none unframed]), fun b1 b2 b3 c1 c0 rest is fill => ?_⟩
  intro origin
  subst is
  have sorted := s.geo.sortFrame_of_framed b1 b2 b3 c1 c0 fill
  let f : ArrivedFrame := ⟨b1, b2, b3, wordOf c1 c0⟩
  split_ifs with check tag style
  · exact bad (sorted.trans (if_neg check))
  · rw [if_pos (not_not.mp check)] at sorted
    exact rejected (sorted.trans (if_pos tag))
  · rw [if_pos (not_not.mp check)] at sorted
    exact rejected (sorted.trans ((if_neg tag).trans (if_pos ((style_ne_iff f _).mpr style))))
  · rw [if_pos (not_not.mp check)] at sorted
    have tag : f.ringTag = s.geo.ringTag := not_not.mp tag
    have style : f.style = s.geo.style := not_not.mp ((style_ne_iff f _).not.mpr style)
    rintro pa pb hpa hpb
    split
    next a b =>
      intro malformed
      refine rejected (sorted.trans (Ring.checkNotice_of_malformed tag style hpa.symm hpb.symm ?_))
      rw [spanJoining_eq_none_iff]
      exact malformed
    next unknown =>
      refine rejected (sorted.trans (Ring.checkNotice_of_unknown tag style ?_))
      cases pa with
      | none => exact .inl hpa.symm
      | some a =>
        cases pb with
        | none => exact .inr hpb.symm
        | some b => exact (unknown a b rfl rfl).elim

end Sys2Proof.Machine
end

section
/-!
Proofs about the Switch Protocol Unit (chapter 6): what the close of an event does to each side, the roles and what they
transmit, the answer timer, and the end of a publication.
-/

namespace Sys2Proof.Machine

/-! ### The close of an event -/

section Close

variable {s : State} {u v : SwitchUnit} {r : Ring} {x y : Side}

/-- What a decided state is read from. -/
theorem SwitchUnit.decide_congr (served : v.served = u.served)
    (sides : ∀ y, (v.sides.get y).decided = (u.sides.get y).decided ∧ (v.sides.get y).span = (u.sides.get y).span ∧
      (v.sides.get y).standing = (u.sides.get y).standing) : v.decide r x = u.decide r x := by
  have standing (y : Side) := (sides y).2.2
  have served : v.switchServed r x = u.switchServed r x := by rw [SwitchUnit.switchServed, served, SwitchUnit.switchServed]
  have dark : v.darkReporter r x = u.darkReporter r x := by
    rw [SwitchUnit.darkReporter, (sides x).2.1, SwitchUnit.darkReporter]
  have answers : v.answerStands r x = u.answerStands r x := by
    simp only [SwitchUnit.answerStands, standing]
  rw [SwitchUnit.decide, served, (sides x).1, dark, answers, SwitchUnit.decide]

/-- What a transmitted content is read from. -/
theorem SwitchUnit.content_congr (role : v.role = u.role)
    (sides : ∀ y, (v.sides.get y).span = (u.sides.get y).span ∧ (v.sides.get y).realised = (u.sides.get y).realised ∧
      (v.sides.get y).standing = (u.sides.get y).standing) : v.content r x = u.content r x := by
  have span (y : Side) := (sides y).1
  have realised (y : Side) := (sides y).2.1
  have standing (y : Side) := (sides y).2.2
  simp only [SwitchUnit.content, SwitchUnit.ownNotice, SwitchUnit.forwarded, SwitchUnit.kindOf, role, span, realised,
    standing]

theorem writeChoice_of_chosen (chosen : (s.protocol.sides.get x).choice = some (s.protocol.content s.geo x)) :
    s.writeChoice x = s := if_pos chosen

/-- Of a side, the write of a choice touches the choice alone. -/
theorem writeChoice_side (s : State) (x y : Side) :
    ∃ c, (s.writeChoice x).protocol.sides.get y = { s.protocol.sides.get y with choice := c } := by
  unfold State.writeChoice
  dsimp only
  split_ifs
  · exact ⟨_, rfl⟩
  · change ∃ c, (s.protocol.sides.set x _).get y = _
    rw [Pair.get_set]
    split_ifs with same
    · exact ⟨_, by rw [same]⟩
    · exact ⟨_, rfl⟩

theorem triggerIfDecided_protocol (s : State) (u : SwitchUnit) (x : Side) :
    (s.triggerIfDecided u x).protocol = s.protocol := triggerIfDecided_only s u x .protocol (by decide)

/-- The close of an event decides each side and writes its choice; it touches nothing else of the side (R93, R106). -/
theorem closeSwitch_side (s : State) (x : Side) : ∃ c, s.closeSwitch.protocol.sides.get x =
    { (s.protocol.sides.get x).withDecided (s.protocol.decide s.geo x) with choice := c } := by
  unfold State.closeSwitch
  dsimp only
  obtain ⟨c, first⟩ := writeChoice_side
    (((s.setProtocol (s.protocol.decideBoth s.geo)).triggerIfDecided s.protocol .east).triggerIfDecided s.protocol .west)
    .east x
  obtain ⟨d, second⟩ := writeChoice_side ((((s.setProtocol (s.protocol.decideBoth s.geo)).triggerIfDecided s.protocol
    .east).triggerIfDecided s.protocol .west).writeChoice .east) .west x
  refine ⟨d, ?_⟩
  rw [second, first, triggerIfDecided_protocol, triggerIfDecided_protocol, State.setProtocol_protocol,
    SwitchUnit.decideBoth, Pair.get_each]

theorem SwitchSide.withDecided_keeps (d : SwitchSide) (next : SideState) :
    (d.withDecided next).standing = d.standing ∧ (d.withDecided next).span = d.span ∧
      (d.withDecided next).realised = d.realised := by
  unfold SwitchSide.withDecided
  split_ifs <;> exact ⟨rfl, rfl, rfl⟩

theorem closeSwitch_standing (s : State) (x : Side) :
    (s.closeSwitch.protocol.sides.get x).standing = (s.protocol.sides.get x).standing := by
  obtain ⟨c, side⟩ := closeSwitch_side s x
  rw [side]
  exact (SwitchSide.withDecided_keeps _ _).1

/-- With every decided state up to date, the close of an event writes the choices alone. -/
theorem closeSwitch_of_decided (decided : ∀ x, (s.protocol.sides.get x).decided = s.protocol.decide s.geo x) :
    s.closeSwitch = (s.writeChoice .east).writeChoice .west := by
  have same : s.protocol.decideBoth s.geo = s.protocol := by
    unfold SwitchUnit.decideBoth
    have sides : (Pair.each fun x => (s.protocol.sides.get x).withDecided (s.protocol.decide s.geo x)) = s.protocol.sides :=
      Pair.ext_get fun x => by
        rw [Pair.get_each]
        exact if_pos (decided x)
    rw [sides]
  have still : s.setProtocol (s.protocol.decideBoth s.geo) = s := by rw [same]; rfl
  unfold State.closeSwitch
  dsimp only
  have untold (x : Side) : s.triggerIfDecided s.protocol x = s := if_pos rfl
  rw [still, untold, untold]

/-- With choices up to date too, it changes nothing. -/
theorem closeSwitch_of_upToDate (decided : ∀ x, (s.protocol.sides.get x).decided = s.protocol.decide s.geo x)
    (choice : ∀ x, (s.protocol.sides.get x).choice = some (s.protocol.content s.geo x)) : s.closeSwitch = s := by
  rw [closeSwitch_of_decided decided, writeChoice_of_chosen (choice .east), writeChoice_of_chosen (choice .west)]

end Close

/-! ### The answer timer (R101, R102) -/

theorem AnswerTimer.due_iff {s : State} {a : AnswerTimer} :
    s.due a.timer = true ↔ ∃ expiry, a = .running expiry ∧ expiry ≤ s.now := by
  cases a <;> simp

/-- Settles O32: the expiry leaves what the decided states and the choices are read from, so the close of the event changes
nothing. -/
theorem answerTimerReports : Obligations.AnswerTimerReports := by
  unfold Obligations.AnswerTimerReports
  intro s x running sound side
  obtain ⟨-, -, upToDate, -⟩ := sound running
  have loaded : s.loader.load = .loaded := by simpa [State.running] using running
  have run : exec (.answerTimerExpiry x) s = .next (s.answerExpires x) :=
    exec_of_live (by simp [loaded]) (fun t => t.answerExpires x) rfl
  refine ⟨fun expiry runs passed => ?_, fun early => ?_⟩
  · let u : SwitchUnit := { s.protocol with sides := s.protocol.sides.set x { side with answer := .expired } }
    let t := (s.setProtocol u).report .protocol .noAnswer (s.geo.westId (s.geo.facing x))
    have expires : s.answerExpires x = t.closeSwitch := if_pos (AnswerTimer.due_iff.mpr ⟨expiry, runs, passed⟩)
    have sides (y : Side) : ∃ a, u.sides.get y = { s.protocol.sides.get y with answer := a } := by
      change ∃ a, (s.protocol.sides.set x _).get y = _
      rw [Pair.get_set]
      split_ifs with same
      · exact ⟨_, by rw [same]⟩
      · exact ⟨_, rfl⟩
    have still : t.closeSwitch = t := by
      refine closeSwitch_of_upToDate (fun y => ?_) fun y => ?_
      · change (u.sides.get y).decided = u.decide s.geo y
        rw [SwitchUnit.decide_congr (u := s.protocol) (v := u) rfl fun z => by obtain ⟨a, h⟩ := sides z; rw [h]; exact ⟨rfl, rfl, rfl⟩]
        obtain ⟨a, h⟩ := sides y
        rw [h]
        exact (upToDate y).1
      · change (u.sides.get y).choice = some (u.content s.geo y)
        rw [SwitchUnit.content_congr (u := s.protocol) (v := u) rfl fun z => by obtain ⟨a, h⟩ := sides z; rw [h]; exact ⟨rfl, rfl, rfl⟩]
        obtain ⟨a, h⟩ := sides y
        rw [h]
        exact (upToDate y).2.1
    refine ⟨t, by rw [run, expires, still], ?_, rfl, rfl⟩
    exact onlyChanges_chain (setProtocol_only s _) (report_only _ _ _ _) (by decide) (by decide)
  · rw [run, State.answerExpires_early]
    refine Bool.eq_false_iff.mpr fun due => ?_
    obtain ⟨expiry, runs, passed⟩ := AnswerTimer.due_iff.mp due
    exact absurd passed (Nat.not_le.mpr (early expiry runs))

/-! ### The end of a publication (R98, R101, R146) -/

section Done

variable {s : State}

theorem takeDone_of_other {g : Nat} (other : ∀ flight, s.fabric.inFlight = some flight → flight.map.generation ≠ some g) :
    s.takeDone g = s := by
  unfold State.takeDone
  split
  · rfl
  next flight stands => exact if_neg (other flight stands)

theorem takeDone_of_flight {g : Nat} {flight : InFlight} (stands : s.fabric.inFlight = some flight)
    (same : flight.map.generation = some g) : s.takeDone g =
      ((s.setFabric { s.fabric with inFlight := none }).switchTakesCompletion flight.map.decided).tryPublish := by
  unfold State.takeDone
  rw [stands]
  exact if_pos same

theorem SwitchSide.startAnswer_parts (d : SwitchSide) (expiry : Nat) :
    (d.startAnswer expiry).realised = d.realised ∧ (d.startAnswer expiry).decided = d.decided ∧
      (d.startAnswer expiry).answer =
        if d.decided = .bridged ∧ d.realised = .bridged ∧ d.answer = .stopped then .running expiry else d.answer := by
  unfold SwitchSide.startAnswer
  split_ifs
  · exact ⟨rfl, rfl, rfl⟩
  · exact ⟨rfl, rfl, rfl⟩

theorem startAnswers_only (s : State) : onlyChanges [.protocol] s s.startAnswers := setProtocol_only s _

/-- A completion in a unit that is up to date realises the states, and starts answer timers; nothing else of a side but its
choice changes (R98, R101). -/
theorem switchTakesCompletion_side (decided : ∀ x, (s.protocol.sides.get x).decided = s.protocol.decide s.geo x)
    (realised : Pair SideState) (x : Side) : ∃ c, (s.switchTakesCompletion realised).protocol.sides.get x =
      ({ s.protocol.sides.get x with realised := realised.get x, choice := c } : SwitchSide).startAnswer
        (s.after answerPeriods) := by
  rw [switchTakesCompletion_eq]
  let t := s.setProtocol (s.protocol.realises realised)
  obtain ⟨c, side⟩ := closeSwitch_side t x
  have now : t.closeSwitch.now = s.now := closeSwitch_only t .now (by decide)
  have same : t.protocol.decide t.geo x = s.protocol.decide s.geo x :=
    SwitchUnit.decide_congr rfl fun y => by cases y <;> exact ⟨rfl, rfl, rfl⟩
  have before : t.protocol.sides.get x = { s.protocol.sides.get x with realised := realised.get x } := by cases x <;> rfl
  refine ⟨c, ?_⟩
  change (Pair.each fun y => (t.closeSwitch.protocol.sides.get y).startAnswer (t.closeSwitch.after answerPeriods)).get x = _
  rw [Pair.get_each, side, same, before, State.after, now, SwitchSide.withDecided, if_pos (decided x)]
  rfl

theorem switchTakesCompletion_only_of_decided
    (decided : ∀ x, (s.protocol.sides.get x).decided = s.protocol.decide s.geo x) (realised : Pair SideState) :
    onlyChanges [.protocol, .ports] s (s.switchTakesCompletion realised) := by
  rw [switchTakesCompletion_eq]
  let t := s.setProtocol (s.protocol.realises realised)
  have still : t.closeSwitch = (t.writeChoice .east).writeChoice .west := by
    refine closeSwitch_of_decided fun x => ?_
    have same : t.protocol.decide t.geo x = s.protocol.decide s.geo x :=
      SwitchUnit.decide_congr rfl fun y => by cases y <;> exact ⟨rfl, rfl, rfl⟩
    rw [same, ← decided x]
    cases x <;> rfl
  have begins : onlyChanges [.protocol, .ports] s t := onlyChanges_mono (setProtocol_only s _) (by decide)
  have ends : onlyChanges [.protocol, .ports] t.closeSwitch t.closeSwitch.startAnswers :=
    onlyChanges_mono (startAnswers_only _) (by decide)
  refine onlyChanges_trans begins (onlyChanges_trans ?_ ends)
  rw [still]
  exact onlyChanges_trans (writeChoice_only _ _) (writeChoice_only _ _)

end Done

/-- Settles O43: the decided states are not read from the realised ones, so a completion leaves them and starts answer timers
where a bridge has become visible. -/
theorem doneEndsThePublication : Obligations.DoneEndsThePublication := by
  unfold Obligations.DoneEndsThePublication
  intro s g running sound
  obtain ⟨-, -, upToDate, -⟩ := sound running
  have loaded : s.loader.load = .loaded := by simpa [State.running] using running
  have run : exec (.fabDone g) s = .next (s.takeDone g.toNat) :=
    exec_of_live (by simp [loaded]) (fun t => t.takeDone g.toNat) rfl
  refine ⟨fun other => by rw [run, takeDone_of_other other], fun flight stands same => ?_⟩
  let u := s.setFabric { s.fabric with inFlight := none }
  let t := u.switchTakesCompletion flight.map.decided
  have decided (x : Side) : (u.protocol.sides.get x).decided = u.protocol.decide u.geo x := (upToDate x).1
  have completes := switchTakesCompletion_only_of_decided decided flight.map.decided
  have publishes := tryPublish_only t
  refine ⟨t.tryPublish, by rw [run, takeDone_of_flight stands same], ?_, fun x => ?_, ?_⟩
  · exact onlyChanges_chain (onlyChanges_chain (setFabric_only s _) completes (cs := [.fabric, .protocol, .ports])
      (by decide) (by decide)) publishes (by decide) (by decide)
  · obtain ⟨c, side⟩ := switchTakesCompletion_side decided flight.map.decided x
    have protocol : t.tryPublish.protocol = t.protocol := publishes .protocol (by decide)
    rw [protocol, side]
    obtain ⟨realised, same, answer⟩ := SwitchSide.startAnswer_parts
      { u.protocol.sides.get x with realised := flight.map.decided.get x, choice := c } (u.after answerPeriods)
    refine ⟨realised, same, answer.trans ?_⟩
    rw [realised, same]
    rfl
  · have loader : t.loader = s.loader := completes .loader (by decide)
    have pins : t.pins = s.pins := completes .pins (by decide)
    have now : t.now = s.now := completes .now (by decide)
    have fabric : t.fabric = { s.fabric with inFlight := none } := completes .fabric (by decide)
    have gate : t.gateOpen = s.gateOpen := by
      rw [State.gateOpen, State.frozen, loader, pins, fabric]
      rfl
    have h := tryPublish_publishes t
    rw [gate, fabric, now] at h
    exact h

/-! ### Decided states and roles (R93 to R95, R103 to R106) -/

section Roles

variable {s : State} {r : Ring} {u : SwitchUnit} {x : Side}

theorem SwitchUnit.switchServed_iff (u : SwitchUnit) (r : Ring) (x : Side) : u.switchServed r x = true ↔
    (∃ e ∈ u.served, e.span = r.facing x) ∧ ∀ e ∈ u.served, e.kind ≠ .bar := by
  simp only [SwitchUnit.switchServed, Bool.and_eq_true, Bool.not_eq_true', List.any_eq_true, beq_iff_eq, hasBar,
    List.any_eq_false]

/-- A side is IDLE exactly unless its span is served and no BAR is (R93). -/
theorem SwitchUnit.decide_ne_idle_iff : u.decide r x ≠ .idle ↔ u.switchServed r x = true := by
  unfold SwitchUnit.decide
  cases u.switchServed r x
  · simp
  · simp only [Bool.not_true, Bool.false_eq_true, if_false, iff_true]
    split_ifs <;> decide

theorem SwitchUnit.decide_of_cause (served : u.switchServed r x = true)
    (cause : u.darkReporter r x = true ∨ u.answerStands r x = true) : u.decide r x = .switched := by
  have causes : (u.darkReporter r x || u.answerStands r x) = true := by simpa using cause
  rw [SwitchUnit.decide, served, causes]
  simp

/-- The copies of a sound part are the Request Unit's result and the standing notices (R92). -/
theorem darkReporter_of_sound
    (copy : ((s.protocol.sides.get x).span.map fun rec => (rec.kind, rec.reporters)) = s.requests.reportOn (s.geo.facing x))
    (dark : reportsDark s x) : s.protocol.darkReporter s.geo x = true := by
  obtain ⟨kind, reporters, reported, p, mem, own, level⟩ := dark
  rw [reported] at copy
  obtain ⟨rec, held, pair⟩ := Option.map_eq_some_iff.mp copy
  have same : rec.reporters = reporters := congrArg Prod.snd pair
  simp only [SwitchUnit.darkReporter, held, same]
  exact List.any_eq_true.mpr ⟨p, mem, by simp [own, level]⟩

theorem answerStands_of_sound (copies : ∀ y, (s.protocol.sides.get y).standing = (s.ports.get y).standing)
    (stands : answerNoticeStands s x) : s.protocol.answerStands s.geo x = true := by
  obtain ⟨link, n, held, state, farEnd⟩ := stands
  refine List.any_eq_true.mpr ⟨link, by cases link <;> decide, ?_⟩
  rw [copies, held]
  simp [farEnd, state]

theorem kindOf_of_sound
    (copy : ((s.protocol.sides.get x).span.map fun rec => (rec.kind, rec.reporters)) = s.requests.reportOn (s.geo.facing x)) :
    s.protocol.kindOf x = ((s.requests.reportOn (s.geo.facing x)).map (·.1)).getD .quiet := by
  rw [← copy, SwitchUnit.kindOf]
  cases (s.protocol.sides.get x).span <;> rfl

end Roles

/-- Settles O31: a sound unit's decided states and choices are formed from copies of what the ports and the Request Unit
hold. -/
theorem decidedAndTransmittedByRole : Obligations.DecidedAndTransmittedByRole := by
  unfold Obligations.DecidedAndTransmittedByRole
  intro s x running sound decided served content kindOf own quiet about forwarded
  obtain ⟨servedSame, roleSame, upToDate, copies⟩ := sound running
  have standing (y : Side) := (copies y).1
  have kind (y : Side) : s.protocol.kindOf y = kindOf y := kindOf_of_sound (copies y).2.2
  have isDecided : decided = s.protocol.decide s.geo x := (upToDate x).1
  have isServed : s.protocol.switchServed s.geo x = true ↔ served := by
    rw [SwitchUnit.switchServed_iff, servedSame]
  have isContent : content = some (s.protocol.content s.geo x) := (copies x).2.1.trans (upToDate x).2.1
  refine ⟨?_, fun isServed' cause => ?_, ?_⟩
  · rw [isDecided, SwitchUnit.decide_ne_idle_iff, isServed]
  · rw [isDecided]
    exact SwitchUnit.decide_of_cause (isServed.mpr isServed')
      (cause.imp (darkReporter_of_sound (copies x).2.2) (answerStands_of_sound standing))
  · have forwards : s.protocol.forwarded s.geo x = forwarded := by
      rw [SwitchUnit.forwarded, standing]
      rfl
    have owns (y : Side) : s.protocol.ownNotice s.geo y = about y := by
      rw [SwitchUnit.ownNotice, kind]
      rfl
    have bar (y : Side) : (s.protocol.kindOf y == .bar) = decide (kindOf y = .bar) := by
      rw [kind]
      rfl
    rw [isContent, SwitchUnit.content, roleSame]
    cases s.requests.role with
    | idle => rfl
    | passing => exact congrArg some forwards
    | barred =>
      dsimp only
      rw [bar, bar]
      refine ⟨fun east west => ?_, fun east west => ?_, fun east west => ?_, fun east west => ?_⟩
      · rw [decide_eq_true east, decide_eq_true west]
        rfl
      · rw [decide_eq_true east, decide_eq_false west]
        rfl
      · rw [decide_eq_false east, decide_eq_true west]
        rfl
      · rw [decide_eq_false east, decide_eq_false west]
        exact congrArg some forwards
    | switchingEast => exact congrArg some (owns .east)
    | switchingWest => exact congrArg some (owns .west)
    | switchingBoth => exact congrArg some (owns x)

end Sys2Proof.Machine
end

section
/-!
Proofs about the end of a sweep and of the fabric timer (chapter 8).
-/

namespace Sys2Proof.Machine

/-! ### The end of a sweep (R111, R129, R138) -/

section Sweeps

variable {s : State}

theorem actionCodeIn_of_absent {p : Option Plan} {id : Nat} (absent : id ∉ (entriesOf p).map (·.id)) :
    actionCodeIn p id = none := by
  cases p with
  | none => rfl
  | some q =>
    have unknown : q.entries.find? (fun e => e.id == id) = none :=
      List.find?_eq_none.mpr fun e mem same => absent (List.mem_map.mpr ⟨e, mem, by simpa using same⟩)
    simp [actionCodeIn, Plan.actionFor, unknown]

/-- A plan changes an action exactly where the two plans' actions differ for some id (R129). -/
theorem changesAction_iff (old : Option Plan) (new : Plan) :
    changesAction old new = true ↔ ∃ id, actionCodeIn old id ≠ actionCodeIn (some new) id := by
  simp only [changesAction, List.any_eq_true, bne_iff_ne]
  refine ⟨fun ⟨id, _, differs⟩ => ⟨id, differs⟩, fun ⟨id, differs⟩ => ⟨id, ?_, differs⟩⟩
  by_contra absent
  rw [List.mem_append, not_or] at absent
  exact differs ((actionCodeIn_of_absent absent.1).trans (actionCodeIn_of_absent (p := some new) absent.2).symm)

theorem compared_attention (s : State) (plan : Plan) : (s.compared plan).attention =
    if changesAction s.plan.committed plan then s.attention.raisePlan else s.attention := by
  unfold State.compared
  split_ifs <;> rfl

/-- What the end of a sweep leaves (R138, R145). -/
theorem completeSweep_effect {sweep : Sweep} (runs : s.plan.sweep = some sweep) :
    s.completeSweep.plan =
        { sweep := if s.plan.followUp then some { snapshot := s.completeSweep.snapshot, channel := 0 } else none
          restarts := 0, followUp := false, committed := some (s.planBuilt sweep.snapshot) } ∧
      s.completeSweep.attention = (s.compared (s.planBuilt sweep.snapshot)).attention := by
  have plan := swept_plan s sweep.snapshot
  have attention : (s.swept sweep.snapshot).attention = (s.compared (s.planBuilt sweep.snapshot)).attention :=
    commitMap_only _ _ .attention (by decide)
  rw [completeSweep_of_sweep runs]
  dsimp only
  rw [plan]
  cases s.plan.followUp with
  | true => exact ⟨rfl, attention⟩
  | false => exact ⟨rfl, attention⟩

/-- The map of a sweep is committed, and published where the gate is open (R145). -/
theorem swept_publishes (s : State) (snap : Snapshot) : publishesIf (s.gateOpen = true)
    { s.fabric with committed := some { map := s.mapBuilt snap, pending := true } } (s.swept snap).fabric s.now := by
  let u := s.compared (s.planBuilt snap)
  have only := compared_only s (s.planBuilt snap)
  have fabric : u.fabric = s.fabric := only .fabric (by decide)
  have loader : u.loader = s.loader := only .loader (by decide)
  have pins : u.pins = s.pins := only .pins (by decide)
  have now : u.now = s.now := only .now (by decide)
  have gate : u.gateOpen = s.gateOpen := by
    rw [State.gateOpen, State.frozen, loader, pins, fabric]
    rfl
  have publishes : publishesIf (u.gateOpen = true)
      { u.fabric with committed := some { map := s.mapBuilt snap, pending := true } } (s.swept snap).fabric u.now :=
    tryPublish_publishes (u.setFabric { u.fabric with committed := some { map := s.mapBuilt snap, pending := true } })
  rw [gate, fabric, now] at publishes
  exact publishes

end Sweeps

/-- Settles O34: the plan and the map of the snapshot are committed, compared and published. -/
theorem sweepCompletionCommits : Obligations.SweepCompletionCommits := by
  unfold Obligations.SweepCompletionCommits
  intro s sweep out runs
  obtain ⟨plan, attention⟩ := completeSweep_effect runs
  have fabric := (completeSweep_fabric_eq runs).1
  have publishes := swept_publishes s sweep.snapshot
  rw [← fabric] at publishes
  rw [compared_attention] at attention
  have changes := changesAction_iff s.plan.committed (s.planBuilt sweep.snapshot)
  refine ⟨_, exec_of_live out (fun t => t.completeSweep) rfl, completeSweep_only s, plan, fun change => ?_, fun same => ?_,
    publishes⟩
  · exact attention.trans (if_pos (changes.mpr change))
  · exact attention.trans (if_neg fun h => same (changes.mp h))

/-! ### The fabric timer (R147) -/

/-- Settles O44: the waiting map goes out under the next generation, or the same map again under its own. -/
theorem fabricTimeoutPresentsAgain : Obligations.FabricTimeoutPresentsAgain := by
  unfold Obligations.FabricTimeoutPresentsAgain
  intro s out
  have run : exec .fabricTimeout s = .next s.fabricExpires := exec_of_live out (fun t => t.fabricExpires) rfl
  refine ⟨fun early => by rw [run, State.fabricExpires_early early], fun flight generation stands passed numbered => ?_⟩
  have expires : s.fabricExpires = s.timeOut flight := by
    unfold State.fabricExpires
    rw [stands]
    exact if_pos (decide_eq_true passed)
  let told := s.report .fabric .timeout generation
  have eq : s.timeOut flight = if s.gateOpen && s.fabric.mapPending then
      (told.setFabric { s.fabric with inFlight := none }).tryPublish
      else told.setFabric ({ s.fabric with
        inFlight := some { flight with expiry := s.after fabricPeriods } }.present flight.map) := by
    unfold State.timeOut
    rw [numbered]
    rfl
  refine ⟨s.timeOut flight, by rw [run, expires], timeOut_only s flight, ?_, fun waits => ?_, fun other => ?_⟩
  · rw [eq]
    split_ifs
    · exact tryPublish_only _ .attention (by decide)
    · rfl
  · rw [eq, if_pos (by simpa using waits)]
    exact (tryPublish_publishes (told.setFabric { s.fabric with inFlight := none })).1 ⟨waits.1, rfl, waits.2⟩
  · rw [eq, if_neg (by simpa using other)]
    rfl

end Sys2Proof.Machine
end

section
/-!
Proofs about the bytes on the lines (section 9.9): notice frames and how they are received, answer frames, and the presentation
of a selector map.
-/

namespace Sys2Proof.Machine

/-! ### Notice frames (R53 to R59, R163, R164) -/

section Notices

variable {r : Ring} {n : Notice}

theorem crc16_lt (bytes : List Byte) : crc16 bytes < 65536 := BitVec.isLt _

theorem Kind.ofCode_code (k : Kind) : Kind.ofCode k.code = some k := by cases k <;> rfl
theorem SideState.ofCode_code (s : SideState) : SideState.ofCode s.code = some s := by cases s <;> rfl
theorem Kind.code_lt (k : Kind) : k.code < 8 := by cases k <;> decide
theorem SideState.code_lt (s : SideState) : s.code < 4 := by cases s <;> decide
theorem MapStyle.code_lt (m : MapStyle) : m.code < 2 := by cases m <;> decide

/-- A notice about a span of the ring names two neighbours on it. -/
theorem Ring.ends_of_spanOf (spans : r.spanOf n ≠ none) : ∃ a b span, r.positionOf n.origin = some a ∧
    r.positionOf n.target = some b ∧ r.spanJoining a b = some span := by
  unfold Ring.spanOf at spans
  split at spans
  next a b first second =>
    obtain ⟨span, joins⟩ := Option.ne_none_iff_exists'.mp spans
    exact ⟨a, b, span, first, second, joins⟩
  next => exact absurd rfl spans

/-- The three content bytes of a notice, read back (R163). -/
theorem Notice.read_back (tag : n.ringTag < 16) (origin : n.origin < 64) (target : n.target < 64) (check : Nat) :
    let f : ArrivedFrame := ⟨byteOf (n.ringTag * 16 + n.style.code * 8 + n.kind.code), byteOf (n.state.code * 64 + n.origin),
      byteOf n.target, check⟩
    f.ringTag = n.ringTag ∧ f.style = n.style ∧ f.kindCode = n.kind.code ∧ f.stateCode = n.state.code ∧
      f.origin = n.origin ∧ f.target = n.target := by
  intro f
  have style := n.style.code_lt
  have kind := n.kind.code_lt
  have state := n.state.code_lt
  have first : f.first.toNat = n.ringTag * 16 + n.style.code * 8 + n.kind.code := toNat_byteOf (by omega)
  have second : f.second.toNat = n.state.code * 64 + n.origin := toNat_byteOf (by omega)
  have third : f.third.toNat = n.target := toNat_byteOf (by omega)
  refine ⟨?_, ?_, ?_, ?_, ?_, ?_⟩
  · rw [ArrivedFrame.ringTag, first]
    omega
  · by_contra differs
    rw [← ne_eq, style_ne_iff, first] at differs
    omega
  · rw [ArrivedFrame.kindCode, first]
    omega
  · rw [ArrivedFrame.stateCode, second]
    omega
  · rw [ArrivedFrame.origin, second]
    omega
  · rw [ArrivedFrame.target, idOfByte, third]
    omega

/-- What a port sends is accepted by a port of the same ring with another self id. -/
theorem Ring.sortFrame_of_notice (sound : r.sound) (tag : n.ringTag = r.ringTag) (style : n.style = r.style)
    (spans : r.spanOf n ≠ none) (other : n.origin ≠ r.selfId) {rest : List Byte} (fill : rest.headD 0xFF#8 = 0xFF#8) :
    r.sortFrame (n.frame ++ rest) = .accepted n := by
  obtain ⟨a, b, span, first, second, joins⟩ := Ring.ends_of_spanOf spans
  have sound' := sound
  obtain ⟨-, -, tags, -⟩ := sound'
  obtain ⟨ringTag, mapStyle, kind, state, origin, target⟩ := Notice.read_back (n := n) (by omega)
    (sound.id_lt (by rw [first]; rfl)) (sound.id_lt (by rw [second]; rfl)) (crc16 n.bytes)
  have sorted := r.sortFrame_of_framed (byteOf (n.ringTag * 16 + n.style.code * 8 + n.kind.code))
    (byteOf (n.state.code * 64 + n.origin)) (byteOf n.target) (byteOf (crc16 n.bytes / 256)) (byteOf (crc16 n.bytes)) fill
  rw [wordOf_bytes (crc16_lt _)] at sorted
  refine (sorted.trans (if_pos rfl)).trans ?_
  unfold Ring.checkNotice
  rw [ringTag, mapStyle, kind, state, origin, target, if_neg (not_not.mpr tag), if_neg (not_not.mpr style), first, second]
  dsimp only
  rw [joins, Kind.ofCode_code, SideState.ofCode_code]
  exact if_neg other

end Notices

/-- Settles O23: each port sends its transmit content, and the fields of a notice read back as they were written. -/
theorem noticesSentAreAccepted : Obligations.NoticesSentAreAccepted := by
  unfold Obligations.NoticesSentAreAccepted
  refine ⟨fun s => ⟨s.beginPeriod, rfl, beginPeriod_only s, rfl, fun x => ?_⟩, fun r n rest sound tag style spans other fill =>
    ⟨Ring.sortFrame_of_notice sound tag style spans other fill, rfl⟩⟩
  have running : s.running = decide (s.loader.load = .loaded) := by
    rw [State.running]
    rfl
  change (Pair.each fun y => (s.ports.get y).sends s.running).get x = _
  rw [Pair.get_each, Port.sends, running]
  simp

/-! ### Answer frames (R163, R165) -/

theorem Answer.frame_eq (a : Answer) : a.frame = (a.request :: byteOf a.code.code :: byteOf a.body.length :: a.body) ++
    [crc8 (a.request :: byteOf a.code.code :: byteOf a.body.length :: a.body)] := rfl

/-! ### Presentations (R170) -/

section Bytes

variable {α : Type} {f : α → List Byte} {k : Nat}

theorem flatMap_length (size : ∀ a, (f a).length = k) (l : List α) : (l.flatMap f).length = k * l.length := by
  induction l with
  | nil => rfl
  | cons a rest ih => rw [List.flatMap_cons, List.length_append, size, ih, List.length_cons, Nat.mul_succ, Nat.add_comm]

/-- A byte of a list of entries of one size: it stands in the entry its place falls into. -/
theorem flatMap_getD (size : ∀ a, (f a).length = k) {l : List α} {i j : Nat} {a : α} (entry : l[i]? = some a) (inside : j < k)
    (d : Byte) : (l.flatMap f).getD (k * i + j) d = (f a).getD j d := by
  induction l generalizing i with
  | nil => cases entry
  | cons b rest ih =>
    cases i with
    | zero =>
      obtain rfl : b = a := Option.some.inj entry
      rw [List.flatMap_cons, Nat.mul_zero, Nat.zero_add, List.getD_append _ _ _ _ (by rw [size]; exact inside)]
    | succ i =>
      rw [List.flatMap_cons, List.getD_append_right _ _ _ _ (by rw [size, Nat.mul_succ]; omega), size,
        show k * (i + 1) + j - k = k * i + j by rw [Nat.mul_succ]; omega]
      exact ih entry

/-- A byte of the middle part of three. -/
theorem getD_middle {before middle after : List Byte} {n i : Nat} (starts : before.length = n) (inside : i < middle.length)
    (d : Byte) : (before ++ middle ++ after).getD (n + i) d = middle.getD i d := by
  subst starts
  rw [List.append_assoc, List.getD_append_right _ _ _ _ (by omega), Nat.add_sub_cancel_left,
    List.getD_append _ _ _ _ inside]

theorem Drop.bytes_length (d : Drop) : d.bytes.length = 4 := by
  obtain ⟨circuit, source⟩ := d
  cases source with
  | none => rfl
  | some s => rfl

end Bytes

theorem Drop.mem_insert {d e : Drop} {l : List Drop} : e ∈ d.insert l ↔ e = d ∨ e ∈ l := by
  induction l with
  | nil => simp [Drop.insert]
  | cons f rest ih =>
    unfold Drop.insert
    split_ifs
    · simp
    · simp only [List.mem_cons, ih]
      tauto

theorem Drop.insert_sorted {d : Drop} {l : List Drop} (sorted : l.Pairwise fun a b => a.circuit ≤ b.circuit) :
    (d.insert l).Pairwise fun a b => a.circuit ≤ b.circuit := by
  induction l with
  | nil => exact List.pairwise_singleton _ _
  | cons e rest ih =>
    obtain ⟨first, sorted'⟩ := List.pairwise_cons.mp sorted
    unfold Drop.insert
    split_ifs with before
    · refine List.pairwise_cons.mpr ⟨fun f mem => ?_, sorted⟩
      obtain rfl | mem := List.mem_cons.mp mem
      · exact before
      · exact before.trans (first f mem)
    · refine List.pairwise_cons.mpr ⟨fun f mem => ?_, ih sorted'⟩
      obtain rfl | mem := Drop.mem_insert.mp mem
      · omega
      · exact first f mem

/-- A built map's drops stand in ascending order of circuit id (R170). -/
theorem MapInput.build_drops_sorted (i : MapInput) : i.build.drops.Pairwise fun d e => d.circuit ≤ e.circuit := by
  change ((i.circuits.filterMap i.drop).foldr Drop.insert []).Pairwise _
  induction i.circuits.filterMap i.drop with
  | nil => exact .nil
  | cons d rest ih => exact Drop.insert_sorted ih

section Presentation

variable {m : SelectorMap}

/-- The bytes of a line's entries. -/
def lineBytes (sources : List Source) : List Byte := sources.flatMap fun l => wordBytes l.word

theorem lineBytes_length (sources : List Source) : (lineBytes sources).length = 2 * sources.length :=
  flatMap_length (f := fun l : Source => wordBytes l.word) (k := 2) (fun _ => rfl) _

theorem SelectorMap.bytes_eq (m : SelectorMap) : m.bytes = wordBytes (m.generation.getD 0) ++ lineBytes m.lines.east
    ++ lineBytes m.lines.west ++ [byteOf m.drops.length] ++ m.drops.flatMap Drop.bytes := rfl

/-- The bytes before the entries of a line (R170). -/
def SelectorMap.bytesBefore (m : SelectorMap) : Side → List Byte
  | .east => wordBytes (m.generation.getD 0)
  | .west => wordBytes (m.generation.getD 0) ++ lineBytes m.lines.east

theorem SelectorMap.bytes_of_line (m : SelectorMap) (out : Side) :
    ∃ after, m.bytes = m.bytesBefore out ++ lineBytes (m.lines.get out) ++ after := by
  cases out with
  | east =>
    refine ⟨lineBytes m.lines.west ++ [byteOf m.drops.length] ++ m.drops.flatMap Drop.bytes, ?_⟩
    rw [SelectorMap.bytes_eq]
    simp only [List.append_assoc]
    rfl
  | west =>
    refine ⟨[byteOf m.drops.length] ++ m.drops.flatMap Drop.bytes, ?_⟩
    rw [SelectorMap.bytes_eq]
    simp only [List.append_assoc, SelectorMap.bytesBefore]
    rfl

theorem SelectorMap.bytesBefore_length (east : m.lines.east.length = 80) (out : Side) :
    (m.bytesBefore out).length = 2 + 2 * if out = .west then 80 else 0 := by
  cases out with
  | east => rfl
  | west => rw [SelectorMap.bytesBefore, List.length_append, lineBytes_length, east]; rfl

/-- A line's entry stands in its two bytes. -/
theorem SelectorMap.word_of_line (lengths : ∀ out, (m.lines.get out).length = 80) {out : Side} {channel : Nat}
    {source : Source} (entry : (m.lines.get out)[channel]? = some source) (small : source.word < 65536) :
    wordOf (m.bytes.getD (2 + 2 * (channel + if out = .west then 80 else 0)) 0)
      (m.bytes.getD (2 + 2 * (channel + if out = .west then 80 else 0) + 1) 0) = source.word := by
  obtain ⟨after, bytes⟩ := m.bytes_of_line out
  have starts := SelectorMap.bytesBefore_length (lengths .east) out
  have inside : channel < 80 := lengths out ▸ (List.getElem?_eq_some_iff.mp entry).1
  have long := lineBytes_length (m.lines.get out)
  rw [lengths out] at long
  have byte (j : Nat) (hj : j < 2) : m.bytes.getD (2 + 2 * (channel + if out = .west then 80 else 0) + j) 0 =
      (wordBytes source.word).getD j 0 := by
    rw [bytes, show 2 + 2 * (channel + if out = .west then 80 else 0) + j =
      (2 + 2 * if out = .west then 80 else 0) + (2 * channel + j) by omega, getD_middle starts (by omega)]
    exact flatMap_getD (f := fun l : Source => wordBytes l.word) (k := 2) (fun _ => rfl) entry hj 0
  rw [byte 1 (by decide), ← Nat.add_zero (2 + 2 * _), byte 0 (by decide)]
  exact wordOf_bytes small

theorem SelectorMap.bytes_of_drops (lengths : ∀ out, (m.lines.get out).length = 80) :
    ∃ before, m.bytes = before ++ [byteOf m.drops.length] ++ m.drops.flatMap Drop.bytes ∧ before.length = 322 := by
  refine ⟨_, m.bytes_eq, ?_⟩
  rw [List.length_append, List.length_append, lineBytes_length, lineBytes_length, show m.lines.east.length = 80 from lengths .east,
    show m.lines.west.length = 80 from lengths .west]
  rfl

/-- A byte of a drop entry. -/
theorem SelectorMap.byte_of_drop (lengths : ∀ out, (m.lines.get out).length = 80) {j k : Nat} {d : Drop}
    (entry : m.drops[j]? = some d) (hk : k < 4) : m.bytes.getD (323 + 4 * j + k) 0 = d.bytes.getD k 0 := by
  obtain ⟨before, bytes, long⟩ := SelectorMap.bytes_of_drops lengths
  have whole : (before ++ [byteOf m.drops.length]).length = 323 := by rw [List.length_append, long]; rfl
  rw [bytes, List.getD_append_right _ _ _ _ (by omega), whole, show 323 + 4 * j + k - 323 = 4 * j + k by omega]
  exact flatMap_getD Drop.bytes_length entry hk 0

end Presentation

/-- Settles O45: the pieces of each layout have fixed sizes, so a field stands where the sizes before it add up to. -/
theorem lineBytesByLayout : Obligations.LineBytesByLayout := by
  unfold Obligations.LineBytesByLayout
  refine ⟨fun a short => ?_, rfl, fun m generation lengths few numbered small => ?_, MapInput.build_drops_sorted⟩
  · intro frame code
    have codes : byteOf a.code.code = code := by
      simp only [code]
      cases a.code <;> rfl
    refine ⟨?_, rfl, congrArg some codes, toNat_byteOf (by omega), ?_, ?_⟩
    · simp [frame, Answer.frame_eq]
    · simp [frame, Answer.frame_eq]
    · simp [frame, Answer.frame_eq]
  · intro bytes word
    obtain ⟨before, parts, long⟩ := SelectorMap.bytes_of_drops lengths
    refine ⟨?_, ?_, ?_, fun out channel source entry => ?_, fun j d entry circuit => ?_⟩
    · have drops := flatMap_length Drop.bytes_length m.drops
      simp only [bytes, parts, List.length_append, long, drops, List.length_cons, List.length_nil]
    · change wordOf (byteOf (m.generation.getD 0 / 256)) (byteOf (m.generation.getD 0)) = _
      rw [numbered]
      exact wordOf_bytes (Nat.lt_succ_of_le small)
    · have count : bytes.getD 322 0 = byteOf m.drops.length := by
        simp only [bytes, parts]
        exact getD_middle (middle := [byteOf m.drops.length]) (i := 0) long Nat.zero_lt_one 0
      rw [count, toNat_byteOf (by omega)]
    · intro value
      cases source with
      | idle => exact SelectorMap.word_of_line lengths entry (by decide)
      | pass => exact SelectorMap.word_of_line lengths entry (by decide)
      | addCircuit c => exact fun low => SelectorMap.word_of_line lengths entry (by simp only [Source.word]; omega)
      | turn q => exact fun low => SelectorMap.word_of_line lengths entry (by simp only [Source.word]; omega)
      | squelch => exact SelectorMap.word_of_line lengths entry (by decide)
    · have byte (k : Nat) (hk : k < 4) : bytes.getD (323 + 4 * j + k) 0 = d.bytes.getD k 0 :=
        SelectorMap.byte_of_drop lengths entry hk
      refine ⟨?_, ?_, ?_⟩
      · change wordOf (bytes.getD (323 + 4 * j + 0) 0) (bytes.getD (323 + 4 * j + 1) 0) = _
        rw [byte 0 (by decide), byte 1 (by decide)]
        exact wordOf_bytes (by omega)
      · rw [show 325 + 4 * j = 323 + 4 * j + 2 by omega, byte 2 (by decide)]
        obtain ⟨_, _ | ⟨side, channel⟩⟩ := d
        · rfl
        · cases side <;> rfl
      · rw [show 326 + 4 * j = 323 + 4 * j + 3 by omega, byte 3 (by decide)]
        obtain ⟨_, _ | ⟨side, channel⟩⟩ := d
        · rfl
        · rfl

end Sys2Proof.Machine
end

section
/-!
Proofs about a change of a standing notice (section 4.5): what its takers make of the copies, the echo holds and the monitors,
whatever their order.
-/

namespace Sys2Proof.Machine

/-! ### The copies of the standing notices (R92) -/

section Copies

variable {s t : State} {x y : Side}

/-- The Switch Protocol Unit's copies of the standing notices stand. -/
def SameCopies (s t : State) : Prop :=
  ∀ y, (t.protocol.sides.get y).standing = (s.protocol.sides.get y).standing

theorem SameCopies.trans {u : State} (first : SameCopies s t) (second : SameCopies t u) : SameCopies s u :=
  fun y => (second y).trans (first y)

theorem sameCopies_of_protocol (same : t.protocol = s.protocol) : SameCopies s t := fun y => by rw [same]

theorem switchTakesDerivation_copies (s : State) : SameCopies s s.switchTakesDerivation := by
  intro y
  rw [switchTakesDerivation_eq, closeSwitch_standing]
  cases y <;> rfl

theorem handOn_copies (s : State) (old : RequestUnit) : SameCopies s (s.handOn old) := by
  have trigger (u : State) : SameCopies u u.trigger := sameCopies_of_protocol (trigger_only u .protocol (by decide))
  have order : SameCopies s s.dropOrder := sameCopies_of_protocol rfl
  unfold State.handOn
  split
  · exact sameCopies_of_protocol rfl
  · exact trigger s
  · exact switchTakesDerivation_copies s
  · split_ifs
    · exact order.trans ((trigger _).trans (switchTakesDerivation_copies _))
    · exact order.trans ((switchTakesDerivation_copies _).trans (trigger _))

theorem deriveFrom_copies (s : State) (sides : Pair LocalRequest) : SameCopies s (s.deriveFrom sides) :=
  handOn_copies (s.setRequests _) _

/-- A declared level changes the line part and its timer (R71, R72). -/
theorem requestTakesLevel_changes (s : State) (x : Side) (level : Level) : ∃ line timer, s.requestTakesLevel x level =
    s.changeLocal x { s.requests.sides.get x with line := line, settleTimer := timer } := by
  cases level with
  | dim => exact ⟨_, _, rfl⟩
  | dark => exact ⟨_, _, rfl⟩
  | clear =>
    by_cases idle : (s.protocol.sides.get x).decided = .idle
    · exact ⟨_, _, if_pos idle⟩
    · exact ⟨_, _, if_neg idle⟩

theorem requestTakesLevel_copies (s : State) (x : Side) (level : Level) : SameCopies s (s.requestTakesLevel x level) := by
  obtain ⟨line, timer, change⟩ := requestTakesLevel_changes s x level
  rw [change]
  exact deriveFrom_copies _ _

theorem formRaw_copies (s : State) (x : Side) : SameCopies s (s.formRaw x) := by
  unfold State.formRaw State.declare
  dsimp only
  split_ifs
  · exact sameCopies_of_protocol rfl
  · exact sameCopies_of_protocol rfl
  · exact requestTakesLevel_copies (s.setMonitor x _) x _

theorem switchTakesStanding_copies (s : State) (x : Side) :
    ((s.switchTakesStanding x).protocol.sides.get x).standing = (s.ports.get x).standing := by
  rw [switchTakesStanding_eq, closeSwitch_standing]
  change ((s.protocol.sides.set x _).get x).standing = _
  rw [Pair.get_set_same]

/-- A change of a standing notice reaches the Switch Protocol Unit, whatever the order (R92). -/
theorem handStanding_copies (s : State) (x : Side) (linkChanged : Bool) :
    ((s.handStanding x linkChanged).protocol.sides.get x).standing = (s.ports.get x).standing := by
  refine handStanding_reaches (P := fun t => (t.ports.get x).standing = (s.ports.get x).standing)
    (Q := fun t => (t.protocol.sides.get x).standing = (s.ports.get x).standing) .switchUnit
    (fun u t holds => ((takesStanding_works x linkChanged u t).standing x).trans holds)
    (fun u holds => (switchTakesStanding_copies u x).trans holds) (fun u t holds copied => ?_) rfl
  cases t with
  | switchUnit => exact (switchTakesStanding_copies u x).trans holds
  | requestUnit => exact (deriveFrom_copies u _ x).trans copied
  | lineMonitor =>
    cases linkChanged with
    | true => exact (formRaw_copies u x x).trans copied
    | false => exact copied

/-- A changed link reaches the monitor of its side, whatever the order (R64). -/
theorem handStanding_raw (running : s.running = true) :
    ((s.handStanding x true).monitors.get x).raw = (s.handStanding x true).rawLevel x := by
  refine handStanding_reaches (P := fun t => t.running = true)
    (Q := fun t => (t.monitors.get x).raw = t.rawLevel x) .lineMonitor
    (fun u t runs => (takesStanding_works x true u t).running.trans runs) (fun u runs => formRaw_raw runs x)
    (fun u t runs formed => ?_) running
  have works := takesStanding_works x true u t
  by_cases line : t = .lineMonitor
  · rw [line]
    exact formRaw_raw runs x
  · rw [works.rawLevel, takesStanding_monitors_of_ne line]
    exact formed

end Copies

/-! ### Echo holds (R84) -/

section Echo

variable {s t : State} {x y : Side} {l q : LocalRequest} {now : Nat}

/-- An echo hold that sets a link aside has been started at `now`. -/
def LocalRequest.fresh (l : LocalRequest) (link : Side) (now : Nat) : Prop :=
  ∀ hold, l.echo = some hold → link ∈ hold.links → hold.expiry = now + echoHoldPeriods

theorem fresh_of_startEcho {h : Hearing} (started : l.echo = h.startEcho y) (link : Side) : l.fresh link h.now := by
  intro hold held _
  rw [started, Hearing.startEcho] at held
  split_ifs at held
  obtain rfl := Option.some.inj held
  rfl

theorem LocalRequest.fresh_of_same (same : q.echo = l.echo) (fresh : l.fresh x now) : q.fresh x now :=
  fun hold held => fresh hold (same ▸ held)

theorem Hearing.Drops.fresh {h : Hearing} (drops : h.Drops y l q) (fresh : l.fresh x h.now) : q.fresh x h.now := by
  obtain rfl | ⟨started, -⟩ := drops.echo
  · exact fresh
  · exact fresh_of_startEcho started x

theorem leaveEcho_fresh (l : LocalRequest) (link : Side) (now : Nat) : (l.leaveEcho link).fresh link now := by
  intro hold held aside
  unfold LocalRequest.leaveEcho at held
  cases echo : l.echo with
  | none => simp [echo] at held
  | some old =>
    simp only [echo] at held
    split_ifs at held
    obtain rfl := Option.some.inj held
    have member : link ∈ old.links.filter (· != link) := aside
    simp at member

theorem Hearing.echoAfter_fresh (h : Hearing) (z : Side) (old : LocalRequest) (fresh : l.fresh x h.now) :
    ({ l with echo := h.echoAfter z old l } : LocalRequest).fresh x h.now := by
  unfold Hearing.echoAfter
  by_cases falls : l.effective.code < old.effective.code
  · rw [if_pos falls]
    exact fresh_of_startEcho rfl x
  rw [if_neg falls]
  by_cases rises : old.effective.code < l.effective.code
  · rw [if_pos rises]
    exact fun hold held => nomatch held
  · rw [if_neg rises]
    exact fresh

theorem deriveFrom_fresh {sides : Pair LocalRequest} (fresh : ∀ y, (sides.get y).fresh x s.now) (y : Side) :
    ((s.deriveFrom sides).requests.sides.get y).fresh x s.now := (deriveFrom_drops s sides y).fresh (fresh y)

theorem changeLocal_fresh (fresh : ∀ y, (s.requests.sides.get y).fresh x s.now) {z : Side} {l : LocalRequest}
    (same : l.echo = (s.requests.sides.get z).echo) (y : Side) :
    ((s.changeLocal z l).requests.sides.get y).fresh x s.now := by
  refine deriveFrom_fresh (fun y => ?_) y
  rw [Pair.get_set]
  by_cases here : y = z
  · rw [if_pos here]
    exact s.hearing.echoAfter_fresh z _ (LocalRequest.fresh_of_same same (fresh z))
  · rw [if_neg here]
    exact fresh y

theorem requestTakesLevel_fresh (fresh : ∀ y, (s.requests.sides.get y).fresh x s.now) (z : Side) (level : Level) (y : Side) :
    ((s.requestTakesLevel z level).requests.sides.get y).fresh x s.now := by
  obtain ⟨line, timer, change⟩ := requestTakesLevel_changes s z level
  rw [change]
  exact changeLocal_fresh (l := { s.requests.sides.get z with line := line, settleTimer := timer }) fresh rfl y

theorem formRaw_fresh (fresh : ∀ y, (s.requests.sides.get y).fresh x s.now) (z y : Side) :
    ((s.formRaw z).requests.sides.get y).fresh x s.now := by
  unfold State.formRaw State.declare
  dsimp only
  split_ifs
  · exact fresh y
  · exact fresh y
  · exact requestTakesLevel_fresh (s := s.setMonitor z _) fresh z _ y

/-- A link with a new standing notice leaves every set-aside list, but one that is started afresh after it (R84). -/
theorem handStanding_fresh (s : State) (x : Side) (linkChanged : Bool) (y : Side) :
    ((s.handStanding x linkChanged).requests.sides.get y).fresh x s.now := by
  have takes (u : State) : ∀ y, ((u.requestTakesStanding x).requests.sides.get y).fresh x u.now := fun y =>
    deriveFrom_fresh (fun z => by rw [Pair.get_each]; exact leaveEcho_fresh _ _ _) y
  refine handStanding_reaches (P := fun t => t.now = s.now)
    (Q := fun t => ∀ y, (t.requests.sides.get y).fresh x s.now) .requestUnit
    (fun u t same => (takesStanding_works x linkChanged u t).now.trans same) (fun u same => same ▸ takes u)
    (fun u t same fresh => ?_) rfl y
  cases t with
  | switchUnit =>
    have requests : (u.switchTakesStanding x).requests = u.requests := switchTakesStanding_requests u x
    exact fun z => requests.symm ▸ fresh z
  | requestUnit => exact same ▸ takes u
  | lineMonitor =>
    cases linkChanged with
    | true =>
      rw [← same] at fresh ⊢
      exact formRaw_fresh fresh x
    | false => exact fresh

end Echo

/-! ### The end of a link (R63) -/

theorem linkGroup_eq (x : Side) : linkGroup x = if x = .east then .linkE else .linkW := by cases x <;> rfl

theorem linkGroup_ne_protocol (x : Side) : linkGroup x ≠ .protocol := by cases x <;> decide

/-- Settles O22: the link's own work is done before its notice's end is handed on, and nothing that takes it touches the port's
run, notice, state and timer, or the group reported to. -/
theorem linkGoesDown : Obligations.LinkGoesDown := by
  unfold Obligations.LinkGoesDown
  intro s x out p group
  have run : exec (.linkDown x) s = .next (s.linkExpires x) := exec_of_live out (fun t => t.linkExpires x) rfl
  refine ⟨fun early => by rw [run, State.linkExpires_early (due_false_of_not early)], fun due n standing => ?_⟩
  have isGroup : linkGroup x = group := linkGroup_eq x
  have apart : group ≠ .protocol := isGroup ▸ linkGroup_ne_protocol x
  let told := (s.setPort x { p with run := none, standing := none, link := .down, downTimer := none }).report group .down
    n.origin
  have expires : s.linkExpires x = told.handStanding x (p.link == .up) := by
    have name : (p.standing.map (·.origin)).getD 0 = n.origin := by rw [standing]; rfl
    unfold State.linkExpires
    dsimp only
    rw [if_pos ((timerDue_iff _ _).mp due), name, isGroup]
  have works := handStanding_works told x (p.link == .up)
  have port : told.ports.get x = { p with run := none, standing := none, link := .down, downTimer := none } :=
    Pair.get_set_same _ _ _
  have attention : told.attention = s.attention.report group .down n.origin := rfl
  have hears := works.hears
  refine ⟨s.linkExpires x, run, linkExpires_only s x, ?_⟩
  rw [expires]
  refine ⟨?_, ?_, ?_, ?_, ?_, fun clear => ?_, fun occupied => ?_, fun running up => ?_⟩
  · rw [works.standing, port]
  · rw [works.run, port]
  · rw [works.link, port]
  · rw [works.downTimer, port]
  · rw [handStanding_copies, port]
  · rw [hears.records _ apart, hears.causes _ apart, attention, Attention.report_of_clear .down n.origin clear]
    dsimp only
    rw [FaultRecords.ofGroup_setGroup, Causes.ofGroup_setGroup, if_pos rfl, if_pos rfl]
    exact ⟨rfl, rfl⟩
  · have same := Attention.report_of_occupied .down n.origin occupied
    rw [hears.records _ apart, attention, same]
    exact ⟨rfl, hears.more (by rw [attention, same])⟩
  · have changed : (p.link == .up) = true := by rw [up]; rfl
    rw [changed]
    exact handStanding_raw running

/-! ### Good frames (R60 to R62) -/

section Frames

variable {s : State} {x : Side} {n : Notice}

theorem receive_of_notice (running : s.running = true) (sound : s.geo.sound) (tag : n.ringTag = s.geo.ringTag)
    (style : n.style = s.geo.style) (spans : s.geo.spanOf n ≠ none) (other : n.origin ≠ s.geo.selfId) {rest : List Byte}
    (fill : rest.headD 0xFF#8 = 0xFF#8) : s.receive x (n.frame ++ rest) = s.acceptFrame x n := by
  rw [State.receive, running, Ring.sortFrame_of_notice sound tag style spans other fill]
  rfl

theorem nextRun_eq (run : Option Run) (n : Notice) : nextRun run n =
    match run with
    | some r => if r.candidate.sameContent n then { candidate := r.candidate, count := min (r.count + 1) 3 } else ⟨n, 1⟩
    | none => ⟨n, 1⟩ := by
  cases run <;> rfl

/-- A run is completed with new content exactly by the third frame of a content other than the standing one (R61). -/
theorem completes_iff (p : Port) (n : Notice) : (completesRun p.run n && p.newContent n) = true ↔
    (∃ r, p.run = some r ∧ r.candidate.sameContent n = true ∧ r.count = 2) ∧
      ∀ old, p.standing = some old → old.sameContent n = false := by
  rw [Bool.and_eq_true]
  refine and_congr ?_ ?_
  · unfold completesRun
    cases p.run with
    | none => simp
    | some r => simp
  · unfold Port.newContent
    cases p.standing with
    | none => simp
    | some old => simp

theorem acceptFrame_of_other (other : ¬(completesRun (s.ports.get x).run n && (s.ports.get x).newContent n) = true) :
    s.acceptFrame x n = s.setPort x { s.ports.get x with
      run := some (nextRun (s.ports.get x).run n), downTimer := s.downTimerAfter (s.ports.get x) } := if_neg other

theorem acceptFrame_of_completes (completes : (completesRun (s.ports.get x).run n && (s.ports.get x).newContent n) = true) :
    s.acceptFrame x n = (s.setPort x { s.ports.get x with
      run := some (nextRun (s.ports.get x).run n), standing := some (nextRun (s.ports.get x).run n).candidate, link := .up,
      downTimer := some (s.after linkDownPeriods) }).handStanding x ((s.ports.get x).link == .down) := if_pos completes

theorem downTimerAfter_eq (s : State) (p : Port) : s.downTimerAfter p = if p.link = .up then some (s.now + 24) else p.downTimer := by
  unfold State.downTimerAfter
  cases p.link <;> rfl

end Frames

/-- Settles O21: a frame moves the run, and the one that completes it sets the port before the new notice is handed on. -/
theorem goodFramesBuildStanding : Obligations.GoodFramesBuildStanding := by
  unfold Obligations.GoodFramesBuildStanding
  intro s x n rest running tables links tag style spans other fill
  have loaded : s.loader.load = .loaded := by simpa [State.running] using running
  have received := receive_of_notice (x := x) running (tables.ring_of_running running).2.1 tag style spans other fill
  have run : exec (.ringNotice x (n.frame ++ rest)) s = .next (s.acceptFrame x n) :=
    (exec_of_live (by simp [loaded]) (fun t => t.receive x (n.frame ++ rest)) rfl).trans (congrArg _ received)
  refine ⟨s.acceptFrame x n, run, acceptFrame_only s x n, ?_⟩
  beta_reduce
  intro p q continues moved completes
  have isMoved : nextRun p.run n = moved := nextRun_eq p.run n
  have completes_iff : (completesRun p.run n && p.newContent n) = true ↔ completes := completes_iff p n
  by_cases whole : completes
  · have accepted := acceptFrame_of_completes (completes_iff.mpr whole)
    let u := s.setPort x { p with
      run := some (nextRun p.run n), standing := some (nextRun p.run n).candidate, link := .up,
      downTimer := some (s.after linkDownPeriods) }
    have works := handStanding_works u x (p.link == .down)
    have port : u.ports.get x = { p with
      run := some (nextRun p.run n), standing := some (nextRun p.run n).candidate, link := .up,
      downTimer := some (s.after linkDownPeriods) } := Pair.get_set_same _ _ _
    have copies := handStanding_copies u x (p.link == .down)
    have fresh := handStanding_fresh u x (p.link == .down)
    have standing : q.standing = some (nextRun p.run n).candidate := by
      rw [show q.standing = ((s.acceptFrame x n).ports.get x).standing from rfl, accepted, works.standing, port]
    refine ⟨?_, fun short => absurd whole short, fun _ => ⟨⟨_, standing, ?_⟩, ?_, ?_, ?_, ?_⟩⟩
    · change ((s.acceptFrame x n).ports.get x).run = _
      rw [accepted, works.run, port, ← isMoved]
    · obtain ⟨⟨r, before, same, -⟩, -⟩ := whole
      have same : r.candidate.sameContent n = true := same
      rw [before, nextRun]
      rw [if_pos same]
      exact same
    · change ((s.acceptFrame x n).ports.get x).link = _
      rw [accepted, works.link, port]
    · change ((s.acceptFrame x n).ports.get x).downTimer = _
      rw [accepted, works.downTimer, port]
      rfl
    · rw [standing, accepted, copies, port]
    · rw [accepted]
      exact fun y hold held aside => fresh y hold held aside
  · have accepted := acceptFrame_of_other (completes_iff.not.mpr whole)
    refine ⟨?_, fun _ => ?_, fun full => absurd full whole⟩
    · change ((s.acceptFrame x n).ports.get x).run = _
      rw [accepted, State.setPort, State.setPorts_ports, Pair.get_set_same, ← isMoved]
    · rw [accepted]
      refine ⟨setPort_only s x _, ?_⟩
      rw [State.setPort, State.setPorts_ports, downTimerAfter_eq, ← isMoved]

end Sys2Proof.Machine
end

section
/-!
Proofs about the span records (section 5.4): what stands behind the reporters of a span, and how the kind of a record compares
with what is asked for and heard.
-/

namespace Sys2Proof.Machine

/-! ### Notices heard at a position (R82) -/

/-- A notice other than QUIET that stands on a link and comes from position q about the span. -/
structure Hearing.HeardAt (h : Hearing) (span q : Nat) (link : Side) (n : Notice) : Prop where
  stands : h.standing.get link = some n
  loud : n.kind ≠ .quiet
  origin : h.ring.positionOf n.origin = some q
  span : h.ring.spanOf n = some span

/-- What a notice heard adds to its reporter: its kind unless an echo hold sets it aside, and its state. -/
def Hearing.adds (h : Hearing) (sides : Pair LocalRequest) (link : Side) (n : Notice) : Contribution :=
  { kind := if h.aside sides link n = true then none else some n.kind, state := n.state }

section Heard

variable {h : Hearing} {sides : Pair LocalRequest} {span q : Nat} {link : Side} {n : Notice}

theorem Hearing.contribution_eq_some_iff {a : Contribution} :
    h.contribution sides span q link = some a ↔ ∃ n, h.HeardAt span q link n ∧ a = h.adds sides link n := by
  cases stands : h.standing.get link with
  | none =>
    simp only [Hearing.contribution, stands]
    refine iff_of_false (fun none => nomatch none) ?_
    rintro ⟨n, heard, -⟩
    rw [heard.stands] at stands
    cases stands
  | some n =>
    simp only [Hearing.contribution, stands]
    by_cases heard : h.HeardAt span q link n
    · rw [if_pos (by simp [heard.loud, heard.origin, heard.span])]
      refine ⟨fun same => ⟨n, heard, (Option.some.inj same).symm⟩, ?_⟩
      rintro ⟨m, other, rfl⟩
      rw [← Option.some.inj (heard.stands.symm.trans other.stands)]
      rfl
    · rw [if_neg ?_]
      · refine iff_of_false (fun none => nomatch none) ?_
        rintro ⟨m, other, -⟩
        exact heard (Option.some.inj (stands.symm.trans other.stands) ▸ other)
      · intro all
        simp only [Bool.and_eq_true, bne_iff_ne, beq_iff_eq] at all
        obtain ⟨⟨loud, origin⟩, here⟩ := all
        exact heard ⟨stands, loud, origin, here⟩

/-- A contribution that sums up others: the highest kind of theirs, none when they have none, and the most advanced state of
those with that kind. -/
structure Contribution.SumOf (P : Contribution → Prop) (c : Contribution) : Prop where
  kind : ∀ k, c.kind = some k ↔ (∃ a, P a ∧ a.kind = some k) ∧ ∀ a j, P a → a.kind = some j → j.code ≤ k.code
  counted : c.kind = none → ∀ a, P a → a.kind = none
  attained : ∃ a, P a ∧ a.kind = c.kind ∧ a.state = c.state
  furthest : ∀ a, P a → a.kind = c.kind → a.state.code ≤ c.state.code

theorem Contribution.sumOf_single (a : Contribution) : Contribution.SumOf (· = a) a where
  kind k := by
    constructor
    · rintro same
      refine ⟨⟨a, rfl, same⟩, ?_⟩
      rintro b j rfl other
      rw [Option.some.inj (same.symm.trans other)]
    · rintro ⟨⟨b, rfl, same⟩, -⟩
      exact same
  counted none := by
    rintro b rfl
    exact none
  attained := ⟨a, rfl, rfl, rfl⟩
  furthest := by
    rintro b rfl -
    exact le_rfl

theorem SideState.code_inj {a b : SideState} : a.code = b.code ↔ a = b := by
  cases a <;> cases b <;> decide

theorem SideState.furthest_eq (a b : SideState) : a.furthest b = a ∨ a.furthest b = b := by
  unfold SideState.furthest
  split_ifs
  · exact .inr rfl
  · exact .inl rfl

theorem SideState.le_furthest (a b : SideState) : a.code ≤ (a.furthest b).code ∧ b.code ≤ (a.furthest b).code := by
  unfold SideState.furthest
  split_ifs <;> omega

/-- Two contributions with the same kind are summed up by that kind and the more advanced state. -/
theorem Contribution.sumOf_same {a b : Contribution} (same : b.kind = a.kind) :
    Contribution.SumOf (fun c => c = a ∨ c = b) { kind := a.kind, state := a.state.furthest b.state } where
  kind k := by
    constructor
    · intro whole
      refine ⟨⟨a, .inl rfl, whole⟩, ?_⟩
      rintro c j (rfl | rfl) other
      · rw [Option.some.inj (whole.symm.trans other)]
      · rw [Option.some.inj (whole.symm.trans (same ▸ other))]
    · rintro ⟨⟨c, rfl | rfl, whole⟩, -⟩
      · exact whole
      · exact same ▸ whole
  counted none := by
    rintro c (rfl | rfl)
    · exact none
    · exact same.trans none
  attained := by
    obtain first | second := a.state.furthest_eq b.state
    · exact ⟨a, .inl rfl, rfl, first.symm⟩
    · exact ⟨b, .inr rfl, same, second.symm⟩
  furthest := by
    obtain ⟨first, second⟩ := a.state.le_furthest b.state
    rintro c (rfl | rfl) -
    · exact first
    · exact second

/-- Of two contributions, one whose kind outranks the other's, or that alone has a kind, sums both up. -/
theorem Contribution.sumOf_outranking {P : Contribution → Prop} {a b : Contribution} (both : ∀ c, P c ↔ c = a ∨ c = b)
    {j : Kind} (here : a.kind = some j) (outranks : ∀ k, b.kind = some k → k.code < j.code) : Contribution.SumOf P a where
  kind k := by
    constructor
    · intro whole
      obtain rfl := Option.some.inj (here.symm.trans whole)
      refine ⟨⟨a, (both a).mpr (.inl rfl), whole⟩, fun c i given other => ?_⟩
      obtain rfl | rfl := (both c).mp given
      · rw [Option.some.inj (whole.symm.trans other)]
      · exact (outranks i other).le
    · rintro ⟨⟨c, given, whole⟩, highest⟩
      obtain rfl | rfl := (both c).mp given
      · exact whole
      · have low := outranks k whole
        have high := highest a j ((both a).mpr (.inl rfl)) here
        omega
  counted none := nomatch here.symm.trans none
  attained := ⟨a, (both a).mpr (.inl rfl), rfl, rfl⟩
  furthest c given same := by
    obtain rfl | rfl := (both c).mp given
    · exact le_rfl
    · exact absurd (outranks j (same.trans here)) (lt_irrefl _)

theorem Contribution.merge_sumOf (a b : Contribution) : Contribution.SumOf (fun c => c = a ∨ c = b) (a.merge b) := by
  obtain ⟨akind, astate⟩ := a
  obtain ⟨bkind, bstate⟩ := b
  cases akind with
  | none =>
    cases bkind with
    | none => exact Contribution.sumOf_same rfl
    | some k => exact Contribution.sumOf_outranking (fun c => or_comm) rfl fun _ none => nomatch none
  | some j =>
    cases bkind with
    | none => exact Contribution.sumOf_outranking (fun c => Iff.rfl) rfl fun _ none => nomatch none
    | some k =>
      unfold Contribution.merge
      dsimp only
      split_ifs with same less
      · obtain rfl := same
        exact Contribution.sumOf_same rfl
      · refine Contribution.sumOf_outranking (fun c => or_comm) rfl ?_
        rintro i given
        exact Option.some.inj given ▸ less
      · refine Contribution.sumOf_outranking (fun c => Iff.rfl) rfl ?_
        rintro i given
        obtain rfl := Option.some.inj given
        have differ : j.code ≠ k.code := fun code => same (Kind.code_inj.mp code)
        omega

theorem Contribution.SumOf.congr {P Q : Contribution → Prop} {c : Contribution} (sum : Contribution.SumOf P c)
    (same : ∀ a, P a ↔ Q a) : Contribution.SumOf Q c := by
  obtain rfl : P = Q := funext fun a => propext (same a)
  exact sum

theorem Contribution.SumOf.unique {P : Contribution → Prop} {c d : Contribution} (first : Contribution.SumOf P c)
    (second : Contribution.SumOf P d) : c = d := by
  have kind : c.kind = d.kind := by
    refine Option.ext fun k => ?_
    exact (first.kind k).trans (second.kind k).symm
  have state : c.state.code = d.state.code := by
    obtain ⟨a, given, same, at_⟩ := first.attained
    obtain ⟨b, given', same', at_'⟩ := second.attained
    have le := second.furthest a given (same.trans kind)
    have ge := first.furthest b given' (same'.trans kind.symm)
    rw [at_] at le
    rw [at_'] at ge
    exact le_antisymm le ge
  cases c
  cases d
  cases kind
  cases SideState.code_inj.mp state
  rfl

/-- The contributions of the notices heard from a position about a span. -/
def Hearing.Contributes (h : Hearing) (sides : Pair LocalRequest) (span q : Nat) (a : Contribution) : Prop :=
  ∃ link n, h.HeardAt span q link n ∧ a = h.adds sides link n

theorem Hearing.contributes_iff {a : Contribution} : h.Contributes sides span q a ↔
    h.contribution sides span q .east = some a ∨ h.contribution sides span q .west = some a := by
  rw [Hearing.contribution_eq_some_iff, Hearing.contribution_eq_some_iff]
  constructor
  · rintro ⟨link, n, heard⟩
    cases link
    · exact .inl ⟨n, heard⟩
    · exact .inr ⟨n, heard⟩
  · rintro (⟨n, heard⟩ | ⟨n, heard⟩)
    · exact ⟨.east, n, heard⟩
    · exact ⟨.west, n, heard⟩

theorem Hearing.heardFrom_eq_none_iff :
    h.heardFrom sides span q = none ↔ ∀ a, ¬h.Contributes sides span q a := by
  simp only [Hearing.contributes_iff, Hearing.heardFrom]
  cases h.contribution sides span q .east with
  | none => cases h.contribution sides span q .west <;> simp
  | some a =>
    refine iff_of_false (by cases h.contribution sides span q .west <;> simp) fun none => ?_
    exact none a (.inl rfl)

theorem Hearing.heardFrom_sumOf {c : Contribution} (sum : h.heardFrom sides span q = some c) :
    Contribution.SumOf (h.Contributes sides span q) c := by
  unfold Hearing.heardFrom at sum
  have both (a : Contribution) := Hearing.contributes_iff (h := h) (sides := sides) (span := span) (q := q) (a := a)
  cases east : h.contribution sides span q .east with
  | none =>
    rw [east] at sum
    simp only [east, reduceCtorEq, false_or] at both
    exact (Contribution.sumOf_single c).congr fun a => by rw [both, show h.contribution sides span q .west = _ from sum]; grind
  | some a =>
    cases west : h.contribution sides span q .west with
    | none =>
      rw [east, west] at sum
      cases sum
      exact (Contribution.sumOf_single c).congr fun b => by rw [both, east, west]; grind
    | some b =>
      rw [east, west] at sum
      cases sum
      exact (a.merge_sumOf b).congr fun c => by rw [both, east, west]; grind

end Heard
end Sys2Proof.Machine
end

section
/-!
Proofs about the span records (section 5.4): their reporters, their kind, and what raises the kind of a span.
-/

namespace Sys2Proof.Machine

/-! ### The kind of a record (R83) -/

theorem Kind.le_higher (a b : Kind) : a.code ≤ (a.higher b).code ∧ b.code ≤ (a.higher b).code := by
  unfold Kind.higher
  split_ifs <;> omega

theorem Kind.higher_eq (a b : Kind) : a.higher b = a ∨ a.higher b = b := by
  unfold Kind.higher
  split_ifs
  · exact .inr rfl
  · exact .inl rfl

theorem Kind.code_eq_zero {k : Kind} : k.code = 0 ↔ k = .quiet := by cases k <;> decide

section Folds

/-- The kind a list of reporters gives above one that stands before them. -/
def kindOver (k : Kind) (l : List Reporter) : Kind := l.foldl (fun k p => k.higher (p.kind.getD .quiet)) k

theorem le_kindOver (k : Kind) (l : List Reporter) :
    k.code ≤ (kindOver k l).code ∧ ∀ p ∈ l, ∀ j, p.kind = some j → j.code ≤ (kindOver k l).code := by
  induction l generalizing k with
  | nil => exact ⟨le_rfl, fun p mem => nomatch mem⟩
  | cons p rest ih =>
    obtain ⟨start, others⟩ := ih (k.higher (p.kind.getD .quiet))
    obtain ⟨left, right⟩ := k.le_higher (p.kind.getD .quiet)
    change k.code ≤ (kindOver _ rest).code ∧ ∀ q ∈ p :: rest, ∀ j, q.kind = some j → j.code ≤ (kindOver _ rest).code
    refine ⟨left.trans start, fun q mem j given => ?_⟩
    obtain rfl | mem := List.mem_cons.mp mem
    · rw [given] at right
      exact right.trans (given ▸ start)
    · exact others q mem j given

theorem kindOver_eq (k : Kind) (l : List Reporter) :
    kindOver k l = k ∨ kindOver k l = .quiet ∨ ∃ p ∈ l, p.kind = some (kindOver k l) := by
  induction l generalizing k with
  | nil => exact .inl rfl
  | cons p rest ih =>
    change kindOver (k.higher (p.kind.getD .quiet)) rest = k ∨ kindOver (k.higher (p.kind.getD .quiet)) rest = .quiet ∨
      ∃ q ∈ p :: rest, q.kind = some (kindOver (k.higher (p.kind.getD .quiet)) rest)
    obtain first | quiet | ⟨q, mem, given⟩ := ih (k.higher (p.kind.getD .quiet))
    · rw [first]
      obtain same | same := k.higher_eq (p.kind.getD .quiet)
      · exact .inl same
      · rw [same]
        cases kind : p.kind with
        | none => exact .inr (.inl rfl)
        | some j => exact .inr (.inr ⟨p, List.mem_cons_self, kind⟩)
    · exact .inr (.inl quiet)
    · exact .inr (.inr ⟨q, List.mem_cons_of_mem _ mem, given⟩)

end Folds

section Records

variable {h : Hearing} {sides : Pair LocalRequest} {span q c : Nat} {p : Reporter}

theorem Hearing.mem_reporters_iff : p ∈ (h.record sides span).reporters ↔
    ∃ q, (q = span ∨ q = h.ring.next span) ∧ h.reporterAt sides span q = some p := by
  simp [Hearing.record]

theorem Hearing.record_kind : (h.record sides span).kind = kindOver .quiet (h.record sides span).reporters := rfl

theorem Hearing.record_dark_iff :
    (h.record sides span).dark = true ↔ ∃ p ∈ (h.record sides span).reporters, p.kind = some .dark := by
  change (h.record sides span).reporters.any (fun p => p.kind == some .dark) = true ↔ _
  simp only [List.any_eq_true, beq_iff_eq]

/-- The record of a span reaches a kind exactly where one of its reporters does. -/
theorem Hearing.le_record_kind_iff : c ≤ (h.record sides span).kind.code ↔
    c = 0 ∨ ∃ p ∈ (h.record sides span).reporters, ∃ k, p.kind = some k ∧ c ≤ k.code := by
  rw [Hearing.record_kind]
  obtain ⟨-, above⟩ := le_kindOver .quiet (h.record sides span).reporters
  constructor
  · intro reaches
    obtain quiet | quiet | ⟨p, mem, given⟩ := kindOver_eq .quiet (h.record sides span).reporters
    · exact .inl (by rw [quiet] at reaches; exact Nat.le_zero.mp reaches)
    · exact .inl (by rw [quiet] at reaches; exact Nat.le_zero.mp reaches)
    · exact .inr ⟨p, mem, _, given, reaches⟩
  · rintro (rfl | ⟨p, mem, k, given, reaches⟩)
    · exact Nat.zero_le _
    · exact reaches.trans (above p mem k given)

theorem Hearing.reporterAt_zero_iff : h.reporterAt sides span 0 = some p ↔
    (sides.get (sideFacing span)).effective ≠ .quiet ∧
      p = { id := h.ring.selfId, kind := some (sides.get (sideFacing span)).effective, state := none } := by
  unfold Hearing.reporterAt
  rw [if_pos rfl]
  dsimp only
  split_ifs with quiet
  · simp [quiet]
  · simp [quiet, eq_comm]

theorem Hearing.reporterAt_of_ne (hq : q ≠ 0) : h.reporterAt sides span q = some p ↔
    ∃ a, h.heardFrom sides span q = some a ∧ p = { id := h.ring.idAt q, kind := a.kind, state := some a.state } := by
  unfold Hearing.reporterAt
  rw [if_neg hq]
  simp [eq_comm]

/-- What makes a span reach a kind: the request of the side that faces it, or a notice from one of its ends that no echo hold
sets aside. -/
def Hearing.Reaches (h : Hearing) (sides : Pair LocalRequest) (span c : Nat) : Prop :=
  ((0 = span ∨ 0 = h.ring.next span) ∧ c ≤ (sides.get (sideFacing span)).effective.code) ∨
    ∃ q link n, (q = span ∨ q = h.ring.next span) ∧ q ≠ 0 ∧ h.HeardAt span q link n ∧ ¬h.aside sides link n = true ∧
      c ≤ n.kind.code

theorem Hearing.adds_kind_iff {link : Side} {n : Notice} {k : Kind} :
    (h.adds sides link n).kind = some k ↔ ¬h.aside sides link n = true ∧ n.kind = k := by
  unfold Hearing.adds
  dsimp only
  split_ifs with aside
  · simp [aside]
  · simp [aside]

theorem Hearing.reaches_iff (pos : c ≠ 0) : c ≤ (h.record sides span).kind.code ↔ h.Reaches sides span c := by
  rw [Hearing.le_record_kind_iff]
  constructor
  · rintro (zero | ⟨p, mem, k, given, reaches⟩)
    · exact absurd zero pos
    · obtain ⟨q, ends, at_⟩ := Hearing.mem_reporters_iff.mp mem
      by_cases zero : q = 0
      · subst zero
        obtain ⟨-, rfl⟩ := Hearing.reporterAt_zero_iff.mp at_
        exact .inl ⟨ends, Option.some.inj given ▸ reaches⟩
      · obtain ⟨a, sum, rfl⟩ := (Hearing.reporterAt_of_ne zero).mp at_
        obtain ⟨⟨b, ⟨link, n, heard, rfl⟩, kind⟩, -⟩ := ((Hearing.heardFrom_sumOf sum).kind k).mp given
        obtain ⟨counts, rfl⟩ := Hearing.adds_kind_iff.mp kind
        exact .inr ⟨q, link, n, ends, zero, heard, counts, reaches⟩
  · rintro (⟨ends, reaches⟩ | ⟨q, link, n, ends, zero, heard, counts, reaches⟩)
    · refine .inr ⟨_, Hearing.mem_reporters_iff.mpr ⟨0, ends, Hearing.reporterAt_zero_iff.mpr ⟨fun quiet => ?_, rfl⟩⟩, _, rfl,
        reaches⟩
      rw [quiet] at reaches
      exact pos (Nat.le_zero.mp reaches)
    · cases sum : h.heardFrom sides span q with
      | none => exact absurd ⟨link, n, heard, rfl⟩ (Hearing.heardFrom_eq_none_iff.mp sum _)
      | some a =>
        have whole := Hearing.heardFrom_sumOf sum
        have contributes : h.Contributes sides span q (h.adds sides link n) := ⟨link, n, heard, rfl⟩
        have given : (h.adds sides link n).kind = some n.kind := Hearing.adds_kind_iff.mpr ⟨counts, rfl⟩
        refine .inr ⟨_, Hearing.mem_reporters_iff.mpr ⟨q, ends, (Hearing.reporterAt_of_ne zero).mpr ⟨a, sum, rfl⟩⟩, ?_⟩
        obtain ⟨k, highest⟩ : ∃ k, a.kind = some k := Option.ne_none_iff_exists'.mp fun none =>
          nomatch given.symm.trans (whole.counted none _ contributes)
        exact ⟨k, highest, reaches.trans (((whole.kind k).mp highest).2 _ _ contributes given)⟩

end Records

end Sys2Proof.Machine
end

section
/-!
Proofs about what the records hold (section 5.4): the reporters of a span are exactly those the chapter names.
-/

namespace Sys2Proof.Machine

section Spans

variable {r : Ring}

theorem Ring.sideFacing_facing (size : 2 ≤ r.size) (x : Side) : sideFacing (r.facing x) = x := by
  cases x with
  | east => rfl
  | west => exact if_neg (show r.size - 1 ≠ 0 by omega)

/-- The local node is an end of the two spans its sides face (R5). -/
theorem Ring.local_end_iff {span : Nat} (hs : span < r.size) :
    (0 = span ∨ 0 = r.next span) ↔ r.facing (sideFacing span) = span := by
  rw [Ring.next_eq hs]
  unfold sideFacing
  by_cases first : span = 0
  · simp [first, Ring.facing]
  · rw [if_neg first]
    change _ ↔ r.size - 1 = span
    by_cases last : span + 1 = r.size
    · rw [if_pos last]
      omega
    · rw [if_neg last]
      omega

theorem Ring.ends_of_spanJoining {a b span : Nat} (joins : r.spanJoining a b = some span) :
    a = span ∨ a = r.next span := by
  unfold Ring.spanJoining at joins
  split_ifs at joins with east west
  · exact .inl (Option.some.inj joins)
  · exact .inr (Option.some.inj joins ▸ west)

/-- A notice about a span comes from one of its ends. -/
theorem Ring.origin_of_spanOf {n : Notice} {span : Nat} (about : r.spanOf n = some span) :
    ∃ q, r.positionOf n.origin = some q ∧ (q = span ∨ q = r.next span) := by
  unfold Ring.spanOf at about
  split at about
  next a b origin _ => exact ⟨a, origin, Ring.ends_of_spanJoining about⟩
  next => cases about

theorem Ring.farEnd_lt (sound : r.sound) (x : Side) : r.farEnd x < r.size := by
  have three : 3 ≤ r.size := sound.1
  cases x <;> simp only [Ring.farEnd] <;> omega

end Spans

section Reporters

variable {h : Hearing} {sides : Pair LocalRequest} {span q : Nat} {link : Side} {n : Notice}

theorem Hearing.heardAt_iff (sound : h.ring.sound) (hq : q < h.ring.size) : h.HeardAt span q link n ↔
    h.standing.get link = some n ∧ n.kind ≠ .quiet ∧ n.origin = h.ring.idAt q ∧ h.ring.spanOf n = some span := by
  have same : h.ring.positionOf n.origin = some q ↔ n.origin = h.ring.idAt q :=
    (Ring.positionOf_eq_some_iff sound).trans ⟨fun ⟨_, at_⟩ => at_.symm, fun at_ => ⟨hq, at_.symm⟩⟩
  exact ⟨fun ⟨stands, loud, origin, about⟩ => ⟨stands, loud, same.mp origin, about⟩,
    fun ⟨stands, loud, origin, about⟩ => ⟨stands, loud, same.mpr origin, about⟩⟩

theorem Hearing.aside_iff (sound : h.ring.sound) : h.aside sides link n = true ↔
    ∃ (x : Side) (hold : EchoHold), (sides.get x).echo = some hold ∧ link ∈ hold.links ∧
      n.origin = h.ring.idAt (h.ring.farEnd x) ∧ h.ring.spanOf n = some (h.ring.facing x) := by
  have side (x : Side) : (h.ring.fromFarEnd x n && (sides.get x).setsAside link) = true ↔
      ∃ hold : EchoHold, (sides.get x).echo = some hold ∧ link ∈ hold.links ∧
        n.origin = h.ring.idAt (h.ring.farEnd x) ∧ h.ring.spanOf n = some (h.ring.facing x) := by
    have origin : h.ring.positionOf n.origin = some (h.ring.farEnd x) ↔ n.origin = h.ring.idAt (h.ring.farEnd x) :=
      (Ring.positionOf_eq_some_iff sound).trans
        ⟨fun ⟨_, at_⟩ => at_.symm, fun at_ => ⟨Ring.farEnd_lt sound x, at_.symm⟩⟩
    unfold LocalRequest.setsAside
    cases (sides.get x).echo with
    | none => simp
    | some hold =>
      simp only [Ring.fromFarEnd, Bool.and_eq_true, beq_iff_eq, origin, List.contains_iff_mem, Option.some.injEq,
        exists_eq_left']
      exact and_comm
  simp only [Hearing.aside, bothSides, List.any_cons, List.any_nil, Bool.or_false, Bool.or_eq_true, side]
  exact ⟨fun found => found.elim (⟨.east, ·⟩) (⟨.west, ·⟩), fun ⟨x, found⟩ => by
    cases x
    · exact .inl found
    · exact .inr found⟩

/-- A notice that gives a reporter its kind, or that is heard at all where none counts. -/
def Hearing.StandsFor (h : Hearing) (sides : Pair LocalRequest) (span q : Nat) (kind : Option Kind) (n : Notice) : Prop :=
  match kind with
  | some k => ∃ link, h.HeardAt span q link n ∧ ¬h.aside sides link n = true ∧ n.kind = k
  | none => ∃ link, h.HeardAt span q link n

/-- The kind of a reporter is the highest of its notices that count. -/
def Hearing.HighestHeard (h : Hearing) (sides : Pair LocalRequest) (span q : Nat) (kind : Option Kind) : Prop :=
  ∀ k, kind = some k ↔ (∃ n link, h.HeardAt span q link n ∧ ¬h.aside sides link n = true ∧ n.kind = k) ∧
    ∀ link n, h.HeardAt span q link n → ¬h.aside sides link n = true → n.kind.code ≤ k.code

section Sums

variable {a : Contribution} (sum : Contribution.SumOf (h.Contributes sides span q) a)
include sum

theorem Contribution.SumOf.highestHeard : h.HighestHeard sides span q a.kind := by
  intro k
  rw [sum.kind]
  refine and_congr ⟨?_, ?_⟩ ⟨fun highest link n heard counts => ?_, ?_⟩
  · rintro ⟨_, ⟨link, n, heard, rfl⟩, given⟩
    exact ⟨n, link, heard, Hearing.adds_kind_iff.mp given⟩
  · rintro ⟨n, link, heard, given⟩
    exact ⟨_, ⟨link, n, heard, rfl⟩, Hearing.adds_kind_iff.mpr given⟩
  · exact highest _ _ ⟨link, n, heard, rfl⟩ (Hearing.adds_kind_iff.mpr ⟨counts, rfl⟩)
  · rintro highest _ j ⟨link, n, heard, rfl⟩ given
    obtain ⟨counts, rfl⟩ := Hearing.adds_kind_iff.mp given
    exact highest link n heard counts

theorem Contribution.SumOf.standsFor_iff : h.StandsFor sides span q a.kind n ↔
    ∃ link, h.HeardAt span q link n ∧ (h.adds sides link n).kind = a.kind := by
  cases kind : a.kind with
  | none =>
    refine ⟨fun ⟨link, heard⟩ => ⟨link, heard, sum.counted kind _ ⟨link, n, heard, rfl⟩⟩, fun ⟨link, heard, _⟩ => ⟨link, heard⟩⟩
  | some k => simp only [Hearing.StandsFor, Hearing.adds_kind_iff]

end Sums

/-- The reporter at another position: there is one exactly where its notices are heard, and it sums them up. -/
theorem Hearing.reporterAt_iff {p : Reporter} (zero : q ≠ 0) : h.reporterAt sides span q = some p ↔
    p.id = h.ring.idAt q ∧ (∃ link n, h.HeardAt span q link n) ∧ h.HighestHeard sides span q p.kind ∧
    ∃ st, p.state = some st ∧ (∃ n, h.StandsFor sides span q p.kind n ∧ n.state = st) ∧
      ∀ n, h.StandsFor sides span q p.kind n → n.state.code ≤ st.code := by
  rw [Hearing.reporterAt_of_ne zero]
  constructor
  · rintro ⟨a, found, rfl⟩
    have sum := Hearing.heardFrom_sumOf found
    obtain ⟨_, ⟨link, n, heard, rfl⟩, kind, state⟩ := sum.attained
    refine ⟨rfl, ⟨link, n, heard⟩, sum.highestHeard, a.state, rfl, ⟨n, sum.standsFor_iff.mpr ⟨link, heard, kind⟩, state⟩,
      fun m stands => ?_⟩
    obtain ⟨link, heard, kind⟩ := sum.standsFor_iff.mp stands
    exact sum.furthest _ ⟨link, m, heard, rfl⟩ kind
  · rintro ⟨id, ⟨link, n, heard⟩, kind, st, state, ⟨m, stands, rfl⟩, furthest⟩
    cases found : h.heardFrom sides span q with
    | none => exact absurd ⟨link, n, heard, rfl⟩ (Hearing.heardFrom_eq_none_iff.mp found _)
    | some a =>
      have sum := Hearing.heardFrom_sumOf found
      have same : p.kind = a.kind := Option.ext fun k => (kind k).trans (sum.highestHeard k).symm
      rw [same] at stands furthest
      obtain ⟨link, heard, counted⟩ := sum.standsFor_iff.mp stands
      obtain ⟨_, ⟨link', n', heard', rfl⟩, counted', state'⟩ := sum.attained
      have le := sum.furthest _ ⟨link, m, heard, rfl⟩ counted
      have ge := furthest n' (sum.standsFor_iff.mpr ⟨link', heard', counted'⟩)
      have least : m.state = a.state := SideState.code_inj.mp (le_antisymm le (state' ▸ ge))
      refine ⟨a, rfl, ?_⟩
      rw [← id, ← same, ← least, ← state]

theorem Hearing.reporters_ids (h : Hearing) (sides : Pair LocalRequest) (span : Nat) :
    ((h.record sides span).reporters.map (·.id)).Sublist [h.ring.westId span, h.ring.eastId span] := by
  have id {q : Nat} {p : Reporter} (at_ : h.reporterAt sides span q = some p) : p.id = h.ring.idAt q := by
    by_cases zero : q = 0
    · subst zero
      obtain ⟨-, rfl⟩ := Hearing.reporterAt_zero_iff.mp at_
      rfl
    · exact (Hearing.reporterAt_iff zero).mp at_ |>.1
  change ((List.filterMap (h.reporterAt sides span) [span, h.ring.next span]).map (·.id)).Sublist
    ([span, h.ring.next span].map h.ring.idAt)
  induction [span, h.ring.next span] with
  | nil => exact .slnil
  | cons q rest ih =>
    cases at_ : h.reporterAt sides span q with
    | none =>
      rw [List.filterMap_cons_none at_]
      exact ih.cons _
    | some p =>
      rw [List.filterMap_cons_some at_, List.map_cons, List.map_cons, id at_]
      exact ih.cons_cons _

end Reporters

/-- Settles O29: a reporter is the local node or the sum of the notices heard from an end of the span, and the record's kind is
the highest of theirs. -/
theorem recordsHoldWhatIsHeard : Obligations.RecordsHoldWhatIsHeard := by
  unfold Obligations.RecordsHoldWhatIsHeard
  intro h sides sound r aside span hs
  have two : 2 ≤ h.ring.size := le_trans (by decide) sound.1
  refine ⟨_, Hearing.derivePass_record hs, fun p => ?_, h.reporters_ids sides span, fun p mem k given => ?_, fun loud => ?_,
    Hearing.record_dark_iff⟩
  · rw [show p ∈ _ ↔ _ from Hearing.mem_reporters_iff]
    have local_ : ((0 = span ∨ 0 = h.ring.next span) ∧ h.reporterAt sides span 0 = some p) ↔
        ∃ x : Side, r.facing x = span ∧ (sides.get x).effective ≠ .quiet ∧
          p = { id := r.selfId, kind := some (sides.get x).effective, state := none } := by
      rw [Ring.local_end_iff hs, Hearing.reporterAt_zero_iff]
      constructor
      · rintro ⟨faces, asks⟩
        exact ⟨_, faces, asks⟩
      · rintro ⟨x, rfl, asks⟩
        rw [Ring.sideFacing_facing two]
        exact ⟨rfl, asks⟩
    rw [← local_]
    have heard {q : Nat} (hq : q < r.size) (id : p.id = r.idAt q) (link : Side) (n : Notice) : h.HeardAt span q link n ↔
        h.standing.get link = some n ∧ n.kind ≠ .quiet ∧ n.origin = p.id ∧ r.spanOf n = some span :=
      id ▸ Hearing.heardAt_iff sound hq
    constructor
    · rintro ⟨q, ends, at_⟩
      by_cases zero : q = 0
      · subst zero
        exact .inl ⟨ends, at_⟩
      · obtain ⟨id, some, kind, st, state, attained, furthest⟩ := (Hearing.reporterAt_iff zero).mp at_
        have hq : q < r.size := by
          obtain rfl | rfl := ends
          · exact hs
          · exact Ring.next_lt sound span
        refine .inr ⟨fun same => zero ?_, ?_⟩
        · exact Ring.idAt_inj sound hq (by omega) (id.symm.trans same)
        · simp only [Hearing.HighestHeard, heard hq id, Hearing.aside_iff sound] at some kind
          refine ⟨some, kind, st, state, ?_⟩
          cases given : p.kind with
          | none =>
            simp only [given, Hearing.StandsFor, heard hq id] at attained furthest
            exact ⟨attained, furthest⟩
          | some k =>
            simp only [given, Hearing.StandsFor, heard hq id, Hearing.aside_iff sound] at attained furthest
            exact ⟨attained, furthest⟩
    · rintro (⟨ends, at_⟩ | ⟨other, ⟨link, n, first⟩, kind, st, state, attained, furthest⟩)
      · exact ⟨0, ends, at_⟩
      · obtain ⟨stands, loud, origin, about⟩ := first
        obtain ⟨q, at_, ends⟩ := Ring.origin_of_spanOf about
        have hq := Ring.positionOf_lt at_
        have id : p.id = r.idAt q := origin.symm.trans (Ring.idAt_positionOf at_).symm
        have zero : q ≠ 0 := by
          rintro rfl
          exact other id
        refine ⟨q, ends, (Hearing.reporterAt_iff zero).mpr ⟨id, ⟨link, n, ?_⟩, ?_, st, state, ?_⟩⟩
        · exact (heard hq id link n).mpr ⟨stands, loud, origin, about⟩
        · simp only [Hearing.HighestHeard, heard hq id, Hearing.aside_iff sound]
          exact kind
        · cases given : p.kind with
          | none =>
            simp only [given] at attained furthest
            simp only [Hearing.StandsFor, heard hq id]
            exact ⟨attained, furthest⟩
          | some k =>
            simp only [given] at attained furthest
            simp only [Hearing.StandsFor, heard hq id, Hearing.aside_iff sound]
            exact ⟨attained, furthest⟩
  · exact ((Hearing.le_record_kind_iff (c := k.code)).mpr (.inr ⟨p, mem, k, given, le_rfl⟩))
  · obtain start | quiet | found := kindOver_eq .quiet (h.record sides span).reporters
    · exact absurd start loud
    · exact absurd quiet loud
    · exact found

end Sys2Proof.Machine
end

section
/-!
Proofs about the served set (section 5.5) on any ring: when a span is served, and that a span stays served while its own kind
does not fall and no other span's kind rises.
-/

namespace Sys2Proof.Machine

/-! ### The first of a list in report order (R87) -/

section Order

variable {r : Ring} {e f g : ServedEntry}

/-- Entry e comes before f in report order, or equal with it and listed after it. -/
def Ring.leads (r : Ring) (e f : ServedEntry) : Prop :=
  (f.span < e.span → ¬r.reportedBefore f e = true) ∧ (e.span < f.span → r.reportedBefore e f = true)

theorem Ring.leads_self (r : Ring) (e : ServedEntry) : r.leads e e :=
  ⟨fun less => absurd less (lt_irrefl _), fun less => absurd less (lt_irrefl _)⟩

theorem Ring.reportedBefore_of_not (ef : r.reportedBefore e f = true) (gf : ¬r.reportedBefore g f = true) :
    r.reportedBefore e g = true := by
  simp only [Ring.reportedBefore_iff, ← Kind.code_inj] at *
  omega

theorem Ring.reportOrder_head {l rest : List ServedEntry} (ascending : l.Pairwise fun a b => a.span < b.span)
    (order : r.reportOrder l = e :: rest) : e ∈ l ∧ ∀ f ∈ l, r.leads e f := by
  induction l generalizing e rest with
  | nil => cases order
  | cons d l ih =>
    obtain ⟨first, ascending⟩ := List.pairwise_cons.mp ascending
    change r.insertReported d (r.reportOrder l) = e :: rest at order
    cases tail : r.reportOrder l with
    | nil =>
      obtain rfl := (r.reportOrder_eq_nil_iff l).mp tail
      obtain ⟨rfl, -⟩ : d = e ∧ [] = rest := by simpa [tail, Ring.insertReported] using order
      simpa using r.leads_self d
    | cons m rest' =>
      obtain ⟨mem, leads⟩ := ih ascending tail
      rw [tail, Ring.insertReported] at order
      split_ifs at order with before
      · obtain ⟨rfl, -⟩ := List.cons.inj order
        refine ⟨List.mem_cons_self, List.forall_mem_cons.mpr ⟨r.leads_self d, fun f hf => ⟨fun less => ?_, fun _ => ?_⟩⟩⟩
        · exact absurd less (Nat.lt_asymm (first f hf))
        · obtain ⟨earlier, later⟩ := leads f hf
          obtain less | same | less := Nat.lt_trichotomy f.span m.span
          · exact Ring.reportedBefore_of_not before (earlier less)
          · by_contra none
            have := Ring.not_reportedBefore_head tail f hf
            exact none (Ring.reportedBefore_of_not before this)
          · exact Ring.reportedBefore_trans before (later less)
      · obtain ⟨rfl, -⟩ := List.cons.inj order
        refine ⟨List.mem_cons_of_mem _ mem, List.forall_mem_cons.mpr ⟨⟨fun _ => before, fun less => ?_⟩, leads⟩⟩
        exact absurd less (Nat.lt_asymm (first m mem))

theorem Ring.mem_first_iff {l : List ServedEntry} (ascending : l.Pairwise fun a b => a.span < b.span) :
    e ∈ (r.reportOrder l).take 1 ↔ e ∈ l ∧ ∀ f ∈ l, r.leads e f := by
  cases order : r.reportOrder l with
  | nil => simp [(r.reportOrder_eq_nil_iff l).mp order]
  | cons m rest =>
    obtain ⟨mem, leads⟩ := Ring.reportOrder_head ascending order
    rw [List.take_succ_cons, List.take_zero, List.mem_singleton]
    refine ⟨fun same => same ▸ ⟨mem, leads⟩, fun ⟨here, leads'⟩ => ?_⟩
    obtain ⟨earlier, later⟩ := leads e here
    obtain ⟨earlier', later'⟩ := leads' m mem
    by_contra ne
    have unique : (l.map ServedEntry.span).Nodup := (List.pairwise_map.mpr ascending).imp Nat.ne_of_lt
    have span : e.span ≠ m.span := fun same => ne (List.inj_on_of_nodup_map unique here mem same)
    obtain less | less := Nat.lt_or_gt_of_ne span
    · exact earlier less (later' less)
    · exact earlier' less (later less)

/-! ### When an entry is served (R86) -/

/-- Entry f does not keep e from being served. -/
def Ring.yields (r : Ring) (e f : ServedEntry) : Prop :=
  e.kind = .bar ∨ (e.kind.segmenting = true ∧ f.kind ≠ .bar) ∨ r.leads e f

theorem Kind.eq_bar_iff (k : Kind) : k = .bar ↔ 6 ≤ k.code := by cases k <;> decide

theorem Kind.segmenting_iff_code (k : Kind) : k.segmenting = true ↔ 4 ≤ k.code ∧ k.code < 6 := by cases k <;> decide

theorem Kind.singleSpan_iff_code (k : Kind) : k.singleSpan = true ↔ 1 ≤ k.code ∧ k.code < 4 := by cases k <;> decide

theorem Ring.leads_of_higher (higher : f.kind.code < e.kind.code) : r.leads e f := by
  unfold Ring.leads
  simp only [Ring.reportedBefore_iff, ← Kind.code_inj]
  omega

theorem Ring.leads_le (leads : r.leads e f) (ne : f.span ≠ e.span) : f.kind.code ≤ e.kind.code := by
  unfold Ring.leads at leads
  simp only [Ring.reportedBefore_iff, ← Kind.code_inj] at leads
  omega

/-- A higher kind of e and a lower kind of f still yield. -/
theorem Ring.yields_mono {e' f' : ServedEntry} (yields : r.yields e f) (espan : e'.span = e.span) (fspan : f'.span = f.span)
    (raised : e.kind.code ≤ e'.kind.code) (lowered : f'.kind.code ≤ f.kind.code) : r.yields e' f' := by
  unfold Ring.yields at *
  simp only [Kind.eq_bar_iff, Kind.segmenting_iff_code, ne_eq] at *
  obtain bar | segmenting | ⟨earlier, later⟩ := yields
  · exact .inl (bar.trans raised)
  · omega
  · refine .inr (.inr ⟨fun less => ?_, fun less => ?_⟩)
    · have before := earlier (by omega)
      rw [Ring.reportedBefore_iff, ← Kind.code_inj] at *
      rw [espan, fspan]
      omega
    · have before := later (by omega)
      rw [Ring.reportedBefore_iff, ← Kind.code_inj] at *
      rw [espan, fspan]
      omega

end Order

section Served

variable {h : Hearing} {sides : Pair LocalRequest} {span : Nat}

theorem Hearing.kinds_ascending (h : Hearing) (sides : Pair LocalRequest) :
    (h.kinds sides).Pairwise fun a b => a.span < b.span :=
  List.pairwise_map.mpr List.pairwise_lt_range

/-- A span is served exactly where something is asked for on it and every other span yields. -/
theorem Hearing.served_iff (hs : span < h.ring.size) : h.entryOn sides span ∈ (h.derivePass sides).served ↔
    (h.entryOn sides span).kind ≠ .quiet ∧
      ∀ i < h.ring.size, i ≠ span → h.ring.yields (h.entryOn sides span) (h.entryOn sides i) := by
  have here : h.entryOn sides span ∈ h.kinds sides := Hearing.mem_kinds_iff.mpr ⟨hs, rfl⟩
  have quiet : (h.entryOn sides span).kind ≠ .quiet ↔ 1 ≤ (h.entryOn sides span).kind.code := by
    rw [Nat.one_le_iff_ne_zero, ne_eq, ne_eq, Kind.code_eq_zero]
  change _ ∈ h.ring.servedSet (h.kinds sides) ↔ _
  by_cases bar : ∃ i < h.ring.size, (h.entryOn sides i).kind = .bar
  · rw [Ring.servedSet_of_bar (Hearing.exists_mem_kinds_iff.mpr bar)]
    obtain ⟨i, hi, bar⟩ := bar
    simp only [List.mem_filter, here, true_and, beq_iff_eq]
    constructor
    · exact fun own => ⟨by rw [own]; decide, fun _ _ _ => .inl own⟩
    · rintro ⟨-, yields⟩
      by_cases same : i = span
      · exact same ▸ bar
      · obtain own | ⟨-, other⟩ | leads := yields i hi same
        · exact own
        · exact absurd bar other
        · rw [Kind.eq_bar_iff] at *
          exact bar.trans (Ring.leads_le leads same)
  by_cases segmenting : ∃ i < h.ring.size, (h.entryOn sides i).kind.segmenting = true
  · rw [Ring.servedSet_of_segmenting (Hearing.exists_mem_kinds_iff.not.mpr bar) (Hearing.exists_mem_kinds_iff.mpr segmenting)]
    push Not at bar
    obtain ⟨i, hi, segmenting⟩ := segmenting
    simp only [List.mem_filter, here, true_and]
    constructor
    · exact fun own => ⟨fun none => absurd (none ▸ own) (by decide), fun j hj _ => .inr (.inl ⟨own, bar j hj⟩)⟩
    · rintro ⟨-, yields⟩
      by_cases same : i = span
      · exact same ▸ segmenting
      · obtain own | ⟨own, -⟩ | leads := yields i hi same
        · exact absurd own (bar span hs)
        · exact own
        · have high := Ring.leads_le leads same
          have other := bar span hs
          rw [Kind.segmenting_iff_code, ne_eq, Kind.eq_bar_iff] at *
          omega
  · rw [Ring.servedSet_of_single (Hearing.exists_mem_kinds_iff.not.mpr bar) (Hearing.exists_mem_kinds_iff.not.mpr segmenting),
      Ring.mem_first_iff ((h.kinds_ascending sides).filter _)]
    push Not at bar segmenting
    simp only [List.mem_filter, and_imp, here, true_and, Hearing.forall_mem_kinds_iff]
    have single (i : Nat) (hi : i < h.ring.size) : (h.entryOn sides i).kind.singleSpan = true ↔
        1 ≤ (h.entryOn sides i).kind.code := by
      have noBar := bar i hi
      have noSegment := segmenting i hi
      rw [ne_eq, Kind.eq_bar_iff] at noBar
      rw [ne_eq, Kind.segmenting_iff_code] at noSegment
      rw [Kind.singleSpan_iff_code]
      omega
    rw [single span hs, quiet]
    refine and_congr_right fun asked => forall₂_congr fun i hi => ?_
    rw [single i hi]
    constructor
    · intro leads other
      refine .inr (.inr ?_)
      by_cases low : 1 ≤ (h.entryOn sides i).kind.code
      · exact leads low
      · exact Ring.leads_of_higher (by omega)
    · intro yields loud
      by_cases same : i = span
      · exact same ▸ Ring.leads_self _ _
      · obtain own | ⟨own, -⟩ | leads := yields same
        · exact absurd own (bar span hs)
        · exact absurd own (segmenting span hs)
        · exact leads

theorem Hearing.entryOn_kind (hs : span < h.ring.size) : (h.entryOn sides span).kind = (h.record sides span).kind := by
  rw [Hearing.entryOn, Hearing.derivePass_record hs]
  rfl

/-- A served span is one of the ring with its kind. -/
theorem Hearing.mem_served {e : ServedEntry} (mem : e ∈ (h.derivePass sides).served) :
    e.span < h.ring.size ∧ e = h.entryOn sides e.span := Hearing.mem_kinds_iff.mp (Ring.servedSet_subset mem)

/-- The span a side faces is served exactly where its entry is. -/
theorem Hearing.isServed_iff {x : Side} : h.ring.isServed (h.derivePass sides).served x = true ↔
    h.entryOn sides (h.ring.facing x) ∈ (h.derivePass sides).served := by
  rw [Ring.isServed_iff]
  constructor
  · rintro ⟨e, mem, faces⟩
    exact faces ▸ (Hearing.mem_served mem).2 ▸ mem
  · exact fun mem => ⟨_, mem, rfl⟩

/-- A span stays served while its own kind does not fall and no other span's kind rises (R86). -/
theorem Hearing.served_mono {sides' : Pair LocalRequest} (hs : span < h.ring.size)
    (served : h.entryOn sides span ∈ (h.derivePass sides).served)
    (raised : (h.record sides span).kind.code ≤ (h.record sides' span).kind.code)
    (lowered : ∀ i < h.ring.size, i ≠ span → (h.record sides' i).kind.code ≤ (h.record sides i).kind.code) :
    h.entryOn sides' span ∈ (h.derivePass sides').served := by
  rw [Hearing.served_iff hs] at *
  obtain ⟨loud, yields⟩ := served
  refine ⟨fun quiet => loud ?_, fun i hi other => Ring.yields_mono (yields i hi other) rfl rfl ?_ ?_⟩
  · rw [Hearing.entryOn_kind hs, ← Kind.code_eq_zero] at *
    omega
  · rwa [Hearing.entryOn_kind hs, Hearing.entryOn_kind hs]
  · rw [Hearing.entryOn_kind hi, Hearing.entryOn_kind hi]
    exact lowered i hi other

end Served

end Sys2Proof.Machine
end

section
/-!
Proofs about the operator's requests and the timers of the Request Unit (chapter 5): what FORCE, ASK, BAR and RELEASE leave,
and what the expiries of a settle timer and an echo hold do.
-/

namespace Sys2Proof.Machine

section Sides

variable {s : State} {x : Side} {l : LocalRequest}

/-- A side with a SETTLE in force holds no operator part (R74). -/
theorem LocalRequest.operator_of_settle (line : l.line = .settle) (effective : l.effective = .settle) :
    l.operator = .none := by
  unfold LocalRequest.effective at effective
  rw [line] at effective
  cases operator : l.operator with
  | none => rfl
  | ask => rw [operator] at effective; exact absurd effective (by decide)
  | force => rw [operator] at effective; exact absurd effective (by decide)
  | bar => rw [operator] at effective; exact absurd effective (by decide)

theorem deriveFrom_pass (s : State) (sides : Pair LocalRequest) :
    (s.deriveFrom sides).hearing.derivePass (s.deriveFrom sides).requests.sides = (s.deriveFrom sides).requests := by
  rw [(deriveFrom_works s sides).hearing, deriveFrom_requests]
  exact Hearing.derivePass_derive _ _

/-- Parts that no derivation drops stand as they are set. -/
theorem changeLocal_of_firm (line : l.line ≠ .settle) (operator : l.operator ≠ .ask) :
    (s.changeLocal x l).requests.sides.get x = { l with echo := s.hearing.echoAfter x (s.requests.sides.get x) l } :=
  (changeLocal_drops s x l).eq_of_firm line operator

theorem Hearing.echoAfter_of_fall {h : Hearing} {old new : LocalRequest} (fall : new.effective.code < old.effective.code) :
    h.echoAfter x old new = h.startEcho x := if_pos fall

theorem Hearing.echoAfter_of_not_rising {h : Hearing} {old new : LocalRequest}
    (still : ¬new.effective.code < old.effective.code) (risen : ¬old.effective.code < new.effective.code) :
    h.echoAfter x old new = new.echo := (if_neg still).trans (if_neg risen)

/-- The links of an echo hold started now, from the standing notices (R84). -/
theorem startEcho_eq (s : State) (x : Side) : s.hearing.startEcho x =
    let links := [Side.east, Side.west].filter fun y =>
      match (s.ports.get y).standing with
      | some n => s.geo.fromFarEnd x n && n.kind != .quiet
      | none => false
    if links = [] then none else some { links := links, expiry := s.now + 64 } := by
  have links : s.hearing.farEndLinks x = [Side.east, Side.west].filter fun y =>
      match (s.ports.get y).standing with
      | some n => s.geo.fromFarEnd x n && n.kind != .quiet
      | none => false := by
    refine List.filter_congr fun y _ => ?_
    rw [State.hearing, Pair.get_each]
    cases (s.ports.get y).standing <;> rfl
  unfold Hearing.startEcho
  rw [links]
  simp only [List.isEmpty_iff]
  rfl

theorem Kind.higher_code (a b : Kind) : (a.higher b).code = max a.code b.code := by
  unfold Kind.higher
  split_ifs <;> omega

/-- The answer of an OPERATOR frame is the seven bytes of R167. -/
theorem operatorAnswer_eq (t : State) (x : Side) : t.operatorAnswer x = operatorBytes t x := by
  have served : byteOf (flagBit (t.geo.isServed t.requests.served x) 1) =
      if t.requests.served.any (fun e => e.span == t.geo.facing x) then 1 else 0 := by
    unfold Ring.isServed
    cases t.requests.served.any _ <;> rfl
  unfold State.operatorAnswer operatorBytes
  dsimp only
  rw [served, LocalRequest.effective, Kind.higher_code]
  obtain ⟨line, operator, timer, echo⟩ := t.requests.sides.get x
  have settle : byteOf (LocalRequest.settleCode ⟨line, operator, timer, echo⟩) =
      if timer.isSome then 1 else if line = .settle then 2 else 0 := by
    unfold LocalRequest.settleCode
    dsimp only
    split_ifs <;> rfl
  rw [settle]
  cases timer <;> cases line <;> cases operator <;> rfl

end Sides

/-- Settles O28: the end of a SETTLE is a fall of a side with nothing else to drop, and a derivation follows each expiry. -/
theorem requestTimersExpire : Obligations.RequestTimersExpire := by
  unfold Obligations.RequestTimersExpire
  intro s x running _ settled l
  obtain ⟨-, sides⟩ := settled running
  obtain ⟨effective, -, timed⟩ := sides x
  have live : s.loader.load ≠ .noLoad := by
    rw [show s.loader.load = .loaded by simpa [State.running] using running]
    decide
  have settle : exec (.settleTimerExpiry x) s = .next (s.settleExpires x) :=
    exec_of_live live (fun t => t.settleExpires x) rfl
  have echo : exec (.echoHoldExpiry x) s = .next (s.echoExpires x) := exec_of_live live (fun t => t.echoExpires x) rfl
  refine ⟨⟨fun early => ?_, fun due => ⟨_, settle, settleExpires_only s x, ?_⟩⟩,
    fun early => ?_, fun due => ⟨_, echo, echoExpires_only s x, ?_⟩⟩
  · rw [settle, State.settleExpires_early (due_false_of_not early)]
  · have due := (timerDue_iff _ _).mp due
    have line : l.line = .settle := timed (isSome_of_due due)
    have operator := LocalRequest.operator_of_settle line (effective line).1
    rw [show s.settleExpires x = s.changeLocal x { l with line := .none, settleTimer := none } from if_pos due]
    beta_reduce
    intro q
    have parts : q = _ := changeLocal_of_firm (by simp) (by simp [operator])
    have fall : s.hearing.echoAfter x l { l with line := .none, settleTimer := none } = s.hearing.startEcho x := by
      refine Hearing.echoAfter_of_fall ?_
      simp [LocalRequest.effective, line, operator]
      decide
    exact ⟨congrArg (·.line) parts, (congrArg (·.operator) parts).trans operator, congrArg (·.settleTimer) parts,
      (congrArg (·.echo) parts).trans fall, deriveFrom_pass _ _⟩
  · rw [echo, State.echoExpires_early (due_false_of_not early)]
  · have due := (timerDue_iff _ _).mp due
    rw [show s.echoExpires x = s.deriveFrom (s.requests.sides.set x { l with echo := none }) from if_pos due]
    beta_reduce
    intro q
    have drops := deriveFrom_drops s (s.requests.sides.set x { l with echo := none }) x
    rw [Pair.get_set_same] at drops
    obtain same | ⟨-, fell⟩ := drops.echo
    · exact ⟨.inl same, deriveFrom_pass _ _⟩
    · exact ⟨.inr fell, deriveFrom_pass _ _⟩

end Sys2Proof.Machine
end

section
/-!
Proofs about how the kinds of the records move with the parts of the sides (sections 5.2 to 5.5), on any ring: what a side
drops lowers the kind of its own span alone, and a span that is served stays so while the passes drop other parts.
-/

namespace Sys2Proof.Machine

section Kinds

variable {h : Hearing} {sides sides' : Pair LocalRequest} {span q : Nat} {link : Side} {n : Notice}

/-- A notice heard from another end of a span that a side faces comes from that side's far end. -/
theorem Hearing.HeardAt.fromFarEnd (heard : h.HeardAt span q link n) (ends : q = span ∨ q = h.ring.next span) (zero : q ≠ 0)
    {y : Side} (faces : h.ring.facing y = span) : h.ring.fromFarEnd y n = true := by
  have hq := Ring.positionOf_lt heard.origin
  have far : q = h.ring.farEnd y := by
    subst faces
    have hs : h.ring.facing y < h.ring.size := by cases y <;> simp only [Ring.facing] <;> omega
    rw [Ring.next_eq hs] at ends
    cases y with
    | east =>
      change q = 0 ∨ q = (if 0 + 1 = h.ring.size then 0 else 0 + 1) at ends
      change q = 1
      grind
    | west =>
      change q = h.ring.size - 1 ∨ q = (if h.ring.size - 1 + 1 = h.ring.size then 0 else h.ring.size - 1 + 1) at ends
      change q = h.ring.size - 1
      grind
  simp [Ring.fromFarEnd, heard.origin, heard.span, far, faces]

/-- An echo hold started now sets aside every notice heard from the far end. -/
theorem Hearing.HeardAt.setsAside (heard : h.HeardAt span q link n) {y : Side} (far : h.ring.fromFarEnd y n = true)
    {l : LocalRequest} (started : l.echo = h.startEcho y) : l.setsAside link = true := by
  have mem : link ∈ h.farEndLinks y := by
    refine List.mem_filter.mpr ⟨by cases link <;> decide, ?_⟩
    rw [heard.stands]
    simpa [far] using heard.loud
  have some : (h.farEndLinks y).isEmpty = false := by
    simpa using List.ne_nil_of_mem mem
  unfold LocalRequest.setsAside
  rw [started, Hearing.startEcho]
  simpa [some] using mem

theorem Hearing.aside_iff_side : h.aside sides link n = true ↔
    ∃ y : Side, h.ring.fromFarEnd y n = true ∧ (sides.get y).setsAside link = true := by
  simp only [Hearing.aside, bothSides, List.any_cons, List.any_nil, Bool.or_false, Bool.or_eq_true, Bool.and_eq_true]
  refine ⟨fun found => found.elim (⟨.east, ·⟩) (⟨.west, ·⟩), fun ⟨y, found⟩ => ?_⟩
  cases y
  · exact .inl found
  · exact .inr found

theorem Hearing.HeardAt.facing (heard : h.HeardAt span q link n) {y : Side} (far : h.ring.fromFarEnd y n = true) :
    h.ring.facing y = span := by
  simp only [Ring.fromFarEnd, Bool.and_eq_true, beq_iff_eq] at far
  exact Option.some.inj (far.2.symm.trans heard.span)

theorem LocalRequest.setsAside_congr {l q : LocalRequest} (same : l.echo = q.echo) (link : Side) :
    l.setsAside link = q.setsAside link := by
  unfold LocalRequest.setsAside
  rw [same]

/-- A span's kind does not rise when what its side asks for does not, and its echo hold stands or starts afresh. -/
theorem Hearing.record_kind_le (hs : span < h.ring.size)
    (lower : ∀ y, h.ring.facing y = span → (sides'.get y).effective.code ≤ (sides.get y).effective.code ∧
      ((sides'.get y).echo = (sides.get y).echo ∨ (sides'.get y).echo = h.startEcho y)) :
    (h.record sides' span).kind.code ≤ (h.record sides span).kind.code := by
  by_cases zero : (h.record sides' span).kind.code = 0
  · omega
  refine (Hearing.reaches_iff zero).mpr ?_
  obtain ⟨ends, reaches⟩ | ⟨q, link, n, ends, other, heard, counts, reaches⟩ := (Hearing.reaches_iff zero).mp le_rfl
  · exact .inl ⟨ends, reaches.trans (lower _ ((Ring.local_end_iff hs).mp ends)).1⟩
  · refine .inr ⟨q, link, n, ends, other, heard, fun aside => counts ?_, reaches⟩
    obtain ⟨y, far, sets⟩ := Hearing.aside_iff_side.mp aside
    refine Hearing.aside_iff_side.mpr ⟨y, far, ?_⟩
    obtain same | started := (lower y (heard.facing far)).2
    · rwa [LocalRequest.setsAside_congr same]
    · exact heard.setsAside far started

/-- A span's kind does not fall when what its side asks for does not, and its echo hold stands or ends. -/
theorem Hearing.record_kind_ge (hs : span < h.ring.size)
    (higher : ∀ y, h.ring.facing y = span → (sides.get y).effective.code ≤ (sides'.get y).effective.code ∧
      (2 ≤ h.ring.size → (sides'.get y).echo = (sides.get y).echo ∨ (sides'.get y).echo = none)) :
    (h.record sides span).kind.code ≤ (h.record sides' span).kind.code := by
  by_cases zero : (h.record sides span).kind.code = 0
  · omega
  refine (Hearing.reaches_iff zero).mpr ?_
  obtain ⟨ends, reaches⟩ | ⟨q, link, n, ends, other, heard, counts, reaches⟩ := (Hearing.reaches_iff zero).mp le_rfl
  · exact .inl ⟨ends, reaches.trans (higher _ ((Ring.local_end_iff hs).mp ends)).1⟩
  · refine .inr ⟨q, link, n, ends, other, heard, fun aside => counts ?_, reaches⟩
    obtain ⟨y, far, sets⟩ := Hearing.aside_iff_side.mp aside
    refine Hearing.aside_iff_side.mpr ⟨y, far, ?_⟩
    have two : 2 ≤ h.ring.size := by
      have := Ring.positionOf_lt heard.origin
      omega
    obtain same | ended := (higher y (heard.facing far)).2 two
    · rwa [← LocalRequest.setsAside_congr same]
    · rw [LocalRequest.setsAside, ended] at sets
      cases sets

/-- The span a side faces has at least the kind the side asks for. -/
theorem Hearing.own_le (two : 2 ≤ h.ring.size) (x : Side) :
    (sides.get x).effective.code ≤ (h.record sides (h.ring.facing x)).kind.code := by
  have hs : h.ring.facing x < h.ring.size := by cases x <;> simp only [Ring.facing] <;> omega
  by_cases zero : (sides.get x).effective.code = 0
  · omega
  refine (Hearing.reaches_iff zero).mpr (.inl ⟨(Ring.local_end_iff hs).mpr ?_, ?_⟩)
  · rw [Ring.sideFacing_facing two]
  · rw [Ring.sideFacing_facing two]

end Kinds

/-! ### What the passes keep -/

section Passes

variable {h : Hearing}

/-- A property that each pass keeps holds of the parts a derivation ends with. -/
theorem Hearing.settle_keeps {P : Pair LocalRequest → Prop}
    (pass : ∀ sides, P sides → P (Pair.each fun y => h.afterDrops y (sides.get y)
      (h.ring.isServed (h.derivePass sides).served y))) (n : Nat) (sides : Pair LocalRequest) (start : P sides) :
    P (h.settle n sides).sides := by
  induction n generalizing sides with
  | zero => exact start
  | succ n ih =>
    unfold Hearing.settle
    dsimp only
    split_ifs
    · exact ih _ (pass sides start)
    · exact start

theorem LocalRequest.effective_afterDrops_le (h : Hearing) (x : Side) (l : LocalRequest) (served : Bool) :
    (h.afterDrops x l served).effective.code ≤ l.effective.code := by
  by_cases drops : l.drops served = true
  · rw [Hearing.afterDrops, if_pos drops]
    simp only [LocalRequest.effective, Kind.higher_code]
    have none : LinePart.none.kind.code = 0 ∧ OperatorPart.none.kind.code = 0 := ⟨rfl, rfl⟩
    grind
  · rw [Hearing.afterDrops, if_neg drops]

theorem Hearing.afterDrops_echo (h : Hearing) (x : Side) (l : LocalRequest) (served : Bool) :
    (h.afterDrops x l served).echo = l.echo ∨ (h.afterDrops x l served).echo = h.startEcho x := by
  by_cases drops : l.drops served = true
  · rw [Hearing.afterDrops, if_pos drops]
    exact .inr rfl
  · rw [Hearing.afterDrops, if_neg drops]
    exact .inl rfl

/-- On a served span a side drops only a SETTLE that its operator part outranks, and asks for the same. -/
theorem LocalRequest.effective_afterDrops_of_served (h : Hearing) (x : Side) (l : LocalRequest) :
    (h.afterDrops x l true).effective = l.effective := by
  obtain ⟨line, operator, timer, echo⟩ := l
  cases line <;> cases operator <;> rfl

/-- The parts of one side stand and no other span's kind has risen. -/
structure Hearing.HoldsSpan (h : Hearing) (x : Side) (start sides : Pair LocalRequest) : Prop where
  own : sides.get x = start.get x
  same : ∀ y, h.ring.facing y = h.ring.facing x → (sides.get y).effective = (start.get y).effective
  lower : ∀ i < h.ring.size, i ≠ h.ring.facing x → (h.record sides i).kind.code ≤ (h.record start i).kind.code

variable {x : Side} {start sides : Pair LocalRequest}

theorem Hearing.HoldsSpan.raised (holds : h.HoldsSpan x start sides) (hx : h.ring.facing x < h.ring.size) :
    (h.record start (h.ring.facing x)).kind.code ≤ (h.record sides (h.ring.facing x)).kind.code := by
  refine Hearing.record_kind_ge hx fun y faces => ⟨by rw [holds.same y faces], fun two => .inl ?_⟩
  have only : y = x := by
    rw [← Ring.sideFacing_facing two y, faces, Ring.sideFacing_facing two x]
  rw [only, holds.own]

/-- A side that keeps its parts on a served span keeps them, and the span stays served, whatever the passes drop elsewhere. -/
theorem Hearing.settle_holds (hx : h.ring.facing x < h.ring.size)
    (served : h.entryOn start (h.ring.facing x) ∈ (h.derivePass start).served)
    (firm : (start.get x).drops true = false) (n : Nat) : h.HoldsSpan x start (h.settle n start).sides := by
  refine Hearing.settle_keeps (fun sides holds => ?_) n start ⟨rfl, fun _ _ => rfl, fun _ _ _ => le_rfl⟩
  have still (y : Side) (faces : h.ring.facing y = h.ring.facing x) : h.ring.isServed (h.derivePass sides).served y = true := by
    rw [Hearing.isServed_iff, faces]
    exact Hearing.served_mono hx served (holds.raised hx) holds.lower
  refine ⟨?_, fun y faces => ?_, fun i hi other => le_trans ?_ (holds.lower i hi other)⟩
  · rw [Pair.get_each, still x rfl, holds.own, Hearing.afterDrops_of_firm firm]
  · rw [Pair.get_each, still y faces, LocalRequest.effective_afterDrops_of_served, holds.same y faces]
  · refine Hearing.record_kind_le hi fun y _ => ?_
    rw [Pair.get_each]
    exact ⟨LocalRequest.effective_afterDrops_le h y _ _, Hearing.afterDrops_echo h y _ _⟩

/-- So a derivation leaves the side as it was set, on a served span. -/
theorem Hearing.derive_of_served (hx : h.ring.facing x < h.ring.size)
    (served : h.entryOn start (h.ring.facing x) ∈ (h.derivePass start).served)
    (firm : (start.get x).drops true = false) : (h.derive start).sides.get x = start.get x ∧
      h.ring.isServed (h.derive start).served x = true := by
  have holds := Hearing.settle_holds hx served firm 5
  refine ⟨holds.own, ?_⟩
  rw [← Hearing.derivePass_derive, Hearing.isServed_iff]
  exact Hearing.served_mono hx served (holds.raised hx) holds.lower

end Passes

end Sys2Proof.Machine
end

section
/-!
Proofs about the OPERATOR requests (sections 5.2 to 5.5): BAR, FORCE, ASK and RELEASE, refused and accepted.
-/

namespace Sys2Proof.Machine

section Operator

variable {s : State} {x : Side} {part : OperatorPart}

theorem sideOfByte_code (x : Side) : sideOfByte (byteOf (Side.code x)) = some x := by cases x <;> rfl

theorem operatorOfByte_code (part : OperatorPart) : OperatorPart.ofByte (byteOf part.code) = some part := by
  cases part <;> rfl

theorem serveOperator_release (s : State) (x : Side) : serveOperator [byteOf (Side.code x), 0] s = s.releaseSide x := by
  simp only [serveOperator, sideOfByte_code, show OperatorPart.ofByte 0 = some .none from rfl]

theorem serveOperator_operate (s : State) (x : Side) (some : part ≠ .none) :
    serveOperator [byteOf (Side.code x), byteOf part.code] s = s.operate x part := by
  simp only [serveOperator, sideOfByte_code, operatorOfByte_code]

/-- An OPERATOR request that is taken is answered with the seven bytes of its side. -/
theorem operator_answers {i : Instr} {u : State} {body : List Byte} {effect : State → Prop} (ready : hostReady s)
    (run : exec i s = s.live fun t => t.request i 0x30#8 body serveOperator) (fits : body.length ≤ longestBody)
    (serve : serveOperator body (s.deliver i) = (u, Reply.done (u.operatorAnswer x)))
    (only : onlyChanges requestReach (s.deliver i) u)
    (done : effect (u.answer 0x30#8 (Reply.done (u.operatorAnswer x)))) :
    Answers i s [.requests, .protocol, .ports, .plan, .attention, .orders] 0x30#8 .done (fun t => operatorBytes t x)
      effect :=
  answers_of_loaded ready run fits serve only (only .mgmt (by decide)) (operatorAnswer_eq _ x) done

/-! ### Refusals (R78, R79) -/

/-- A request that another span blocks names the first of the blocking spans in report order. -/
theorem operate_of_blocked (blocked : s.blocking x part ≠ []) : ∃ e ∈ s.blocking x part,
    (∀ f ∈ s.blocking x part, s.geo.reportedBefore f e = false) ∧ s.operate x part = (s, s.outranked e) := by
  unfold State.operate
  cases order : s.geo.reportOrder (s.blocking x part) with
  | nil => exact absurd ((Ring.reportOrder_eq_nil_iff _ _).mp order) blocked
  | cons e rest =>
    refine ⟨e, (Ring.mem_reportOrder _ _ _).mp (order ▸ List.mem_cons_self), fun f mem => ?_, rfl⟩
    simpa using Ring.not_reportedBefore_head order f mem

theorem operate_of_free (free : s.blocking x part = []) :
    s.operate x part = (s.setOperator x part, Reply.done ((s.setOperator x part).operatorAnswer x)) := by
  unfold State.operate
  rw [(Ring.reportOrder_eq_nil_iff _ _).mpr free]

theorem mem_blocking_force {e : ServedEntry} : e ∈ s.blocking x .force ↔ e ∈ s.requests.served ∧ e.kind = .bar := by
  simp [State.blocking]

theorem mem_blocking_ask {e : ServedEntry} :
    e ∈ s.blocking x .ask ↔ e ∈ s.requests.served ∧ 2 ≤ e.kind.code ∧ e.span ≠ s.geo.facing x := by
  simp [State.blocking, show Kind.ask.code = 2 from rfl]

/-! ### What an operator part leaves (R77, R78, R80) -/

theorem setOperator_of_same (same : (s.requests.sides.get x).operator = part) : s.setOperator x part = s := if_pos same

theorem setOperator_of_new (new : (s.requests.sides.get x).operator ≠ part) :
    s.setOperator x part = s.changeLocal x { s.requests.sides.get x with operator := part } := if_neg new

theorem setOperator_hearing (s : State) (x : Side) (part : OperatorPart) : (s.setOperator x part).hearing = s.hearing := by
  by_cases same : (s.requests.sides.get x).operator = part
  · rw [setOperator_of_same same]
  · rw [setOperator_of_new same]
    exact (deriveFrom_works s _).hearing

theorem setOperator_pass (settled : s.hearing.derivePass s.requests.sides = s.requests) :
    s.hearing.derivePass (s.setOperator x part).requests.sides = (s.setOperator x part).requests := by
  by_cases same : (s.requests.sides.get x).operator = part
  · rw [setOperator_of_same same]
    exact settled
  · rw [← setOperator_hearing s x part, setOperator_of_new same]
    exact deriveFrom_pass s _

/-- A BAR or a FORCE is held: no derivation drops it. -/
theorem setOperator_operator (firm : part ≠ .ask) : ((s.setOperator x part).requests.sides.get x).operator = part := by
  by_cases same : (s.requests.sides.get x).operator = part
  · rw [setOperator_of_same same]
    exact same
  · rw [setOperator_of_new same]
    exact (changeLocal_drops s x { s.requests.sides.get x with operator := part }).operator.resolve_right
      fun ask => firm ask.1

theorem LocalRequest.operator_le (l : LocalRequest) : l.operator.kind.code ≤ l.effective.code := by
  rw [LocalRequest.effective, Kind.higher_code]
  exact le_max_right _ _

end Operator

section Held

variable {h : Hearing} {sides : Pair LocalRequest} {x : Side}

theorem Ring.facing_lt {r : Ring} (some : 1 ≤ r.size) (x : Side) : r.facing x < r.size := by
  cases x <;> simp only [Ring.facing] <;> omega

/-- Where some span has the kind BAR, the served set holds the BAR spans alone. -/
theorem Hearing.served_of_bar {span : Nat} (hs : span < h.ring.size) (bar : (h.record sides span).kind = .bar) :
    ({ span := span, kind := .bar } : ServedEntry) ∈ (h.derivePass sides).served ∧
      ∀ e ∈ (h.derivePass sides).served, e.kind = .bar := by
  have entry : h.entryOn sides span = { span := span, kind := .bar } := congrArg (ServedEntry.mk span) (by
    exact (Hearing.entryOn_kind hs).trans bar)
  refine ⟨entry ▸ (Hearing.served_iff hs).mpr ⟨by simp [entry], fun _ _ _ => .inl (by rw [entry])⟩, fun e mem => ?_⟩
  change e ∈ h.ring.servedSet (h.kinds sides) at mem
  rw [Ring.servedSet_of_bar ⟨h.entryOn sides span, Hearing.mem_kinds_iff.mpr ⟨hs, rfl⟩, by rw [entry]⟩] at mem
  simpa using (List.mem_filter.mp mem).2

/-- A BAR of the local node bars it (R77, R86, R89). -/
theorem Hearing.locks_of_bar (two : 2 ≤ h.ring.size) (bar : (sides.get x).operator = .bar) :
    (h.derivePass sides).role = .barred ∧
      ({ span := h.ring.facing x, kind := .bar } : ServedEntry) ∈ (h.derivePass sides).served ∧
      ∀ e ∈ (h.derivePass sides).served, e.kind = .bar := by
  have own := (sides.get x).operator_le.trans (Hearing.own_le (sides := sides) two x)
  rw [bar] at own
  obtain ⟨mem, all⟩ := Hearing.served_of_bar (Ring.facing_lt (by omega) x) ((Kind.eq_bar_iff _).mpr own)
  exact ⟨Ring.roleFor_eq_barred_iff.mpr (hasBar_iff.mpr ⟨_, mem, rfl⟩), mem, all⟩

/-- A FORCE of the local node is served unless a BAR stands somewhere (R78, R86). -/
theorem Hearing.served_of_force (two : 2 ≤ h.ring.size) (force : (sides.get x).operator = .force) :
    h.ring.isServed (h.derivePass sides).served x = true ∨ ∃ e ∈ (h.derivePass sides).served, e.kind = .bar := by
  have hs : h.ring.facing x < h.ring.size := Ring.facing_lt (by omega) x
  have own := (sides.get x).operator_le.trans (Hearing.own_le (sides := sides) two x)
  rw [force] at own
  by_cases bar : ∃ i < h.ring.size, (h.record sides i).kind = .bar
  · obtain ⟨i, hi, bar⟩ := bar
    exact .inr ⟨_, (Hearing.served_of_bar hi bar).1, rfl⟩
  · push Not at bar
    refine .inl (Hearing.isServed_iff.mpr ((Hearing.served_iff hs).mpr ⟨fun quiet => ?_, fun i hi _ => .inr (.inl ⟨?_, ?_⟩)⟩))
    · rw [Hearing.entryOn_kind hs] at quiet
      rw [quiet] at own
      exact absurd own (by decide)
    · have other := bar _ hs
      rw [ne_eq, Kind.eq_bar_iff] at other
      rw [Hearing.entryOn_kind hs, Kind.segmenting_iff_code]
      exact ⟨le_trans (by decide) own, by omega⟩
    · rw [Hearing.entryOn_kind hi]
      exact bar i hi

end Held

/-- Settles O24: a BAR is never dropped, and where one is asked for the served set holds BAR spans alone. -/
theorem barLocksTheRing : Obligations.BarLocksTheRing := by
  unfold Obligations.BarLocksTheRing
  intro s x ready tables settled
  have running : s.running = true := by simp [State.running, ready.1]
  obtain ⟨-, sound, -⟩ := tables.ring_of_running running
  let v := s.deliver (.operatorBar [byteOf (Side.code x), 3])
  have pass := setOperator_pass (s := v) (x := x) (part := .bar) (settled running).1
  have locks := Hearing.locks_of_bar (h := v.hearing) (le_trans (by decide) sound.1)
    (setOperator_operator (s := v) (x := x) (part := .bar) (by decide))
  rw [pass] at locks
  obtain ⟨role, mem, all⟩ := locks
  have geo : (v.setOperator x .bar).geo = v.geo := congrArg Hearing.ring (setOperator_hearing v x .bar)
  refine operator_answers (u := v.setOperator x .bar) ready rfl (by simp [longestBody]) ?_ (setOperator_only v x .bar)
    ⟨setOperator_operator (by decide), role, ?_, all, fun same => ?_⟩
  · exact (serveOperator_operate v x (part := .bar) (by decide)).trans (operate_of_free rfl)
  · rw [show (State.answer (v.setOperator x .bar) _ _).geo = v.geo from geo]
    exact mem
  · exact (congrArg State.requests (setOperator_of_same (s := v) same) :)

/-- Settles O25: a BAR that is served blocks a FORCE; one that is not blocked is held, and served unless a BAR comes back. -/
theorem forceUnlessBarred : Obligations.ForceUnlessBarred := by
  unfold Obligations.ForceUnlessBarred
  intro s x ready tables settled force
  have running : s.running = true := by simp [State.running, ready.1]
  obtain ⟨-, sound, -⟩ := tables.ring_of_running running
  let v := s.deliver force
  have serve : serveOperator [byteOf (Side.code x), 2] v = v.operate x .force :=
    serveOperator_operate v x (part := .force) (by decide)
  refine ⟨fun ⟨e, mem, bar⟩ => ?_, fun free => ?_⟩
  · obtain ⟨f, blocks, first, refused⟩ := operate_of_blocked (s := v) (x := x) (part := .force)
      (List.ne_nil_of_mem (mem_blocking_force.mpr ⟨mem, bar⟩))
    obtain ⟨mem, bar⟩ := mem_blocking_force.mp blocks
    refine ⟨f, mem, bar, fun g mem bar => first g (mem_blocking_force.mpr ⟨mem, bar⟩), ?_⟩
    exact answersOnly_of_service (service := serveOperator) (a := v.outranked f) rfl ready (by simp [longestBody])
      (serve.trans refused)
  · have open_ : v.blocking x .force = [] := List.eq_nil_iff_forall_not_mem.mpr fun e mem =>
      free e (mem_blocking_force.mp mem).1 (mem_blocking_force.mp mem).2
    have pass := setOperator_pass (s := v) (x := x) (part := .force) (settled running).1
    have served := Hearing.served_of_force (h := v.hearing) (le_trans (by decide) sound.1)
      (setOperator_operator (s := v) (x := x) (part := .force) (by decide))
    rw [pass] at served
    have geo : (v.setOperator x .force).geo = v.geo := congrArg Hearing.ring (setOperator_hearing v x .force)
    refine operator_answers (u := v.setOperator x .force) ready rfl (by simp [longestBody])
      (serve.trans (operate_of_free open_)) (setOperator_only v x .force)
      ⟨setOperator_operator (by decide), ?_, fun same => ?_⟩
    · rw [show (State.answer (v.setOperator x .force) _ _).geo = v.geo from geo]
      exact served
    · exact (congrArg State.requests (setOperator_of_same (s := v) same) :)

/-- Settles O27: a side with nothing to release is ABSENT; a released side holds no part that a derivation drops. -/
theorem releaseClearsTheSide : Obligations.ReleaseClearsTheSide := by
  unfold Obligations.ReleaseClearsTheSide
  intro s x ready _ _ release l
  let v := s.deliver release
  refine ⟨fun operator line => ?_, fun held => ?_⟩
  · refine answersOnly_of_service (service := serveOperator) (a := Reply.plain .absent) rfl ready (by simp [longestBody]) ?_
    have none : l.releasable = false := by simp [LocalRequest.releasable, operator, line]
    exact (serveOperator_release v x).trans (if_neg (by rw [show v.requests.sides.get x = l from rfl, none]; decide))
  · have some : l.releasable = true := by simpa [LocalRequest.releasable] using held
    have line : l.released.line = if l.line = .settle then .none else l.line := by
      unfold LocalRequest.released
      split_ifs <;> rfl
    have operator : l.released.operator = .none := by
      unfold LocalRequest.released
      split_ifs <;> rfl
    have echo : l.released.echo = l.echo := by
      unfold LocalRequest.released
      split_ifs <;> rfl
    have falls : ¬l.effective.code < l.released.effective.code := by
      rw [LocalRequest.effective, LocalRequest.effective, Kind.higher_code, Kind.higher_code, line, operator]
      have none : LinePart.none.kind.code = 0 ∧ OperatorPart.none.kind.code = 0 := ⟨rfl, rfl⟩
      split_ifs <;> omega
    have parts : (v.changeLocal x l.released).requests.sides.get x = _ := changeLocal_of_firm
      (by rw [line]; split_ifs with settle; exacts [by decide, settle]) (by rw [operator]; decide)
    refine operator_answers (u := v.changeLocal x l.released) ready rfl (by simp [longestBody]) ?_
      (changeLocal_only v x _) ?_
    · exact (serveOperator_release v x).trans (if_pos some)
    · intro q
      have q_eq : q = { l.released with echo := s.hearing.echoAfter x l l.released } := parts
      refine ⟨(congrArg (·.operator) q_eq).trans operator, (congrArg (·.line) q_eq).trans line, fun settle => ?_, ?_⟩
      · refine (congrArg (·.settleTimer) q_eq).trans ?_
        change l.released.settleTimer = none
        rw [LocalRequest.released, if_pos settle]
      · have effective : q.effective = l.released.effective := q_eq ▸ rfl
        rw [effective, congrArg (·.echo) q_eq]
        dsimp only
        by_cases fall : l.released.effective.code < l.effective.code
        · rw [if_pos fall, Hearing.echoAfter_of_fall fall]
          exact startEcho_eq s x
        · rw [if_neg fall, Hearing.echoAfter_of_not_rising fall falls]
          exact echo

end Sys2Proof.Machine
end

section
/-!
Proofs about ASK (R79, R80): an ASK that no other span outranks is served, and no pass of the derivation takes that away.
-/

namespace Sys2Proof.Machine

section Asked

variable {h : Hearing} {sides sides' : Pair LocalRequest} {span i : Nat}

/-- Where no other span is served at ASK or higher, every other span of ASK or higher yields (R79, R86). -/
theorem Hearing.yields_of_unblocked (free : ∀ e ∈ (h.derivePass sides).served, 2 ≤ e.kind.code → e.span = span)
    (hi : i < h.ring.size) (high : 2 ≤ (h.entryOn sides i).kind.code) :
    h.ring.yields (h.entryOn sides span) (h.entryOn sides i) := by
  by_cases bar : ∃ j < h.ring.size, (h.entryOn sides j).kind = .bar
  · obtain ⟨j, hj, bar⟩ := bar
    have mem := (Hearing.served_iff hj).mpr ⟨by simp [bar], fun _ _ _ => .inl bar⟩
    have here : j = span := free _ mem (by rw [bar]; decide)
    exact .inl (here ▸ bar)
  push Not at bar
  by_cases segmenting : ∃ j < h.ring.size, (h.entryOn sides j).kind.segmenting = true
  · obtain ⟨j, hj, segments⟩ := segmenting
    have code := (Kind.segmenting_iff_code _).mp segments
    have loud : (h.entryOn sides j).kind ≠ .quiet := by
      rw [ne_eq, ← Kind.code_eq_zero]
      omega
    have mem := (Hearing.served_iff hj).mpr ⟨loud, fun k hk _ => .inr (.inl ⟨segments, bar k hk⟩)⟩
    have here : j = span := free _ mem (by omega)
    exact .inr (.inl ⟨here ▸ segments, bar i hi⟩)
  have single : (h.entryOn sides i).kind.singleSpan = true := by
    push Not at segmenting
    have noSegment := segmenting i hi
    have noBar := bar i hi
    rw [ne_eq, Kind.segmenting_iff_code] at noSegment
    rw [ne_eq, Kind.eq_bar_iff] at noBar
    rw [Kind.singleSpan_iff_code]
    omega
  have mem : h.entryOn sides i ∈ (h.kinds sides).filter fun e => e.kind.singleSpan :=
    List.mem_filter.mpr ⟨Hearing.mem_kinds_iff.mpr ⟨hi, rfl⟩, single⟩
  cases order : h.ring.reportOrder ((h.kinds sides).filter fun e => e.kind.singleSpan) with
  | nil => exact absurd ((Ring.reportOrder_eq_nil_iff _ _).mp order) (List.ne_nil_of_mem mem)
  | cons m rest =>
    obtain ⟨here, leads⟩ := Ring.reportOrder_head ((h.kinds_ascending sides).filter _) order
    have served : m ∈ (h.derivePass sides).served := by
      change m ∈ h.ring.servedSet (h.kinds sides)
      rw [Ring.servedSet_of_single (Hearing.exists_mem_kinds_iff.not.mpr (by push Not; exact bar))
        (Hearing.exists_mem_kinds_iff.not.mpr segmenting), order]
      simp
    obtain ⟨-, entry⟩ := Hearing.mem_served served
    have first := leads _ mem
    have code : 2 ≤ m.kind.code := by
      by_cases same : i = m.span
      · rw [entry, ← same]
        exact high
      · exact high.trans (Ring.leads_le first same)
    rw [entry, free m served code] at first
    exact .inr (.inr first)

/-- An ASK on a span that no other outranks is served (R79, R86). -/
theorem Hearing.served_of_unblocked (free : ∀ e ∈ (h.derivePass sides).served, 2 ≤ e.kind.code → e.span = span)
    (hs : span < h.ring.size) (asks : 2 ≤ (h.record sides' span).kind.code)
    (raised : (h.record sides span).kind.code ≤ (h.record sides' span).kind.code)
    (lowered : ∀ i < h.ring.size, i ≠ span → (h.record sides' i).kind.code ≤ (h.record sides i).kind.code) :
    h.entryOn sides' span ∈ (h.derivePass sides').served := by
  refine (Hearing.served_iff hs).mpr ⟨?_, fun i hi other => ?_⟩
  · rw [ne_eq, ← Kind.code_eq_zero, Hearing.entryOn_kind hs]
    omega
  · have low := lowered i hi other
    by_cases high : 2 ≤ (h.record sides i).kind.code
    · refine Ring.yields_mono (Hearing.yields_of_unblocked free hi ?_) rfl rfl ?_ ?_
      · rwa [Hearing.entryOn_kind hi]
      · rwa [Hearing.entryOn_kind hs, Hearing.entryOn_kind hs]
      · rwa [Hearing.entryOn_kind hi, Hearing.entryOn_kind hi]
    · refine .inr (.inr (Ring.leads_of_higher ?_))
      rw [Hearing.entryOn_kind hi, Hearing.entryOn_kind hs]
      omega

end Asked

section Accepted

variable {s : State} {x : Side}

/-- An accepted ASK on a side with no operator part and no SETTLE stands (R80). -/
theorem setOperator_ask_stands (sound : s.geo.sound) (settled : s.hearing.derivePass s.requests.sides = s.requests)
    (free : ∀ e ∈ s.requests.served, 2 ≤ e.kind.code → e.span = s.geo.facing x)
    (operator : (s.requests.sides.get x).operator = .none) (line : (s.requests.sides.get x).line ≠ .settle) :
    ((s.setOperator x .ask).requests.sides.get x).operator = .ask := by
  let l := s.requests.sides.get x
  let new : LocalRequest := { l with operator := .ask, echo := s.hearing.echoAfter x l { l with operator := .ask } }
  let sides := s.requests.sides.set x new
  have two : 2 ≤ s.hearing.ring.size := le_trans (by decide) sound.1
  have hx : s.hearing.ring.facing x < s.hearing.ring.size := Ring.facing_lt (by omega) x
  have rises : l.effective.code ≤ new.effective.code := by
    rw [LocalRequest.effective, LocalRequest.effective, Kind.higher_code, Kind.higher_code, operator]
    exact max_le_max le_rfl (Nat.zero_le _)
  have echo : new.echo = l.echo ∨ new.echo = none := by
    by_cases risen : l.effective.code < new.effective.code
    · exact .inr ((if_neg (Nat.not_lt.mpr rises)).trans (if_pos risen))
    · exact .inl ((if_neg (Nat.not_lt.mpr rises)).trans (if_neg risen))
  have here : sides.get x = new := Pair.get_set_same _ _ _
  have facing {y : Side} (ne : y ≠ x) : s.hearing.ring.facing y ≠ s.hearing.ring.facing x := fun same => ne (by
    rw [← Ring.sideFacing_facing two y, same, Ring.sideFacing_facing two x])
  have served : s.hearing.entryOn sides (s.hearing.ring.facing x) ∈ (s.hearing.derivePass sides).served := by
    refine Hearing.served_of_unblocked (sides := s.requests.sides) (by rw [settled]; exact free) hx ?_ ?_ fun i hi other => ?_
    · refine le_trans ?_ (Hearing.own_le two x)
      rw [here]
      exact new.operator_le
    · refine Hearing.record_kind_ge hx fun y faces => ?_
      by_cases same : y = x
      · rw [same, here]
        exact ⟨rises, fun _ => echo⟩
      · exact absurd faces (facing same)
    · refine Hearing.record_kind_le hi fun y faces => ?_
      have ne : y ≠ x := fun same => other (same ▸ faces.symm)
      rw [show sides.get y = s.requests.sides.get y from (Pair.get_set _ _ _ _).trans (if_neg ne)]
      exact ⟨le_rfl, .inl rfl⟩
  have firm : (sides.get x).drops true = false := by
    rw [here]
    exact (LocalRequest.drops_eq_false_iff _ _).mpr ⟨fun settle => absurd settle line, fun _ => rfl⟩
  rw [setOperator_of_new (by rw [operator]; decide)]
  change ((s.deriveFrom sides).requests.sides.get x).operator = .ask
  rw [deriveFrom_requests, (Hearing.derive_of_served hx served firm).1, here]

/-- After an accepted ASK the side holds it only while its span is served (R80). -/
theorem setOperator_ask (settled : RequestsHold False s) : let t := s.setOperator x .ask
    ((t.requests.sides.get x).operator = .ask ∨ (t.requests.sides.get x).operator = .none) ∧
      ((t.requests.sides.get x).operator = .ask → t.geo.isServed t.requests.served x = true) := by
  intro t
  have firm := (setOperator_hold settled x .ask).firm x
  refine ⟨?_, ((LocalRequest.drops_eq_false_iff _ _).mp firm).2⟩
  by_cases same : (s.requests.sides.get x).operator = .ask
  · exact .inl (by rw [show t = s from setOperator_of_same same, same])
  · rw [show t = _ from setOperator_of_new same]
    obtain held | ⟨-, none⟩ := (changeLocal_drops s x { s.requests.sides.get x with operator := .ask }).operator
    · exact .inl held
    · exact .inr none

end Accepted

/-- Settles O26: a span served at ASK or higher blocks an ASK; one that is not blocked stands while its span is served. -/
theorem askUnlessOutranked : Obligations.AskUnlessOutranked := by
  unfold Obligations.AskUnlessOutranked
  intro s x ready tables settled ask blocks
  have running : s.running = true := by simp [State.running, ready.1]
  obtain ⟨-, sound, -⟩ := tables.ring_of_running running
  let v := s.deliver ask
  have serve : serveOperator [byteOf (Side.code x), 1] v = v.operate x .ask :=
    serveOperator_operate v x (part := .ask) (by decide)
  have blocking {e : ServedEntry} : e ∈ v.blocking x .ask ↔ blocks e := mem_blocking_ask
  refine ⟨fun ⟨e, blocked⟩ => ?_, fun free => ?_⟩
  · obtain ⟨f, mem, first, refused⟩ := operate_of_blocked (List.ne_nil_of_mem (blocking.mpr blocked))
    refine ⟨f, blocking.mp mem, fun g blocked => first g (blocking.mpr blocked), ?_⟩
    exact answersOnly_of_service (service := serveOperator) (a := v.outranked f) rfl ready (by simp [longestBody])
      (serve.trans refused)
  · have open_ : v.blocking x .ask = [] := List.eq_nil_iff_forall_not_mem.mpr fun e mem => free e (blocking.mp mem)
    have unblocked : ∀ e ∈ v.requests.served, 2 ≤ e.kind.code → e.span = v.geo.facing x := fun e mem high => by
      by_contra other
      exact free e ⟨mem, high, other⟩
    obtain ⟨parts, served⟩ := setOperator_ask (s := v) (x := x)
      (requestsHold_of_settled (s := v) running settled fun none => none.elim)
    refine operator_answers (u := v.setOperator x .ask) ready rfl (by simp [longestBody])
      (serve.trans (operate_of_free open_)) (setOperator_only v x .ask) ⟨parts, served, fun operator line => ?_, fun same => ?_⟩
    · exact setOperator_ask_stands (s := v) sound (settled running).1 unblocked operator line
    · exact (congrArg State.requests (setOperator_of_same (s := v) same) :)

end Sys2Proof.Machine
end

section
/-!
Proofs about the monitor timers (sections 3.4 to 3.6): what their expiries declare, what the line part becomes, and when the
SETTLE of a side that falls to CLEAR stands.
-/

namespace Sys2Proof.Machine

section Expiries

variable {s : State} {x : Side} {m : Monitor}

/-- A monitor whose declared level moves hands the new level to the Request Unit. -/
theorem setMonitor_declare_of_move (moves : m.declared ≠ (s.monitors.get x).declared) :
    (s.setMonitor x m).declare x (s.monitors.get x).declared = (s.setMonitor x m).requestTakesLevel x m.declared := by
  have declared : ((s.setMonitor x m).monitors.get x).declared = m.declared :=
    congrArg Monitor.declared (Pair.get_set_same _ _ _)
  unfold State.declare
  dsimp only
  rw [declared, if_neg moves]

/-- A line part set to anything but a SETTLE stands as it is set, its settle timer stopped. -/
theorem changeLocal_line {line : LinePart} {l : LocalRequest} (firm : line ≠ .settle) :
    ((s.changeLocal x { l with line := line, settleTimer := none }).requests.sides.get x).line = line ∧
      ((s.changeLocal x { l with line := line, settleTimer := none }).requests.sides.get x).settleTimer = none := by
  obtain same | ⟨settle, -⟩ := (changeLocal_drops s x { l with line := line, settleTimer := none }).line
  · exact same
  · exact absurd settle firm

theorem requestTakesLevel_line {level : Level} (raised : level ≠ .clear) :
    ((s.requestTakesLevel x level).requests.sides.get x).line = level.linePart ∧
      ((s.requestTakesLevel x level).requests.sides.get x).settleTimer = none := by
  rw [requestTakesLevel_of_raised raised]
  exact changeLocal_line (Level.linePart_ne_settle level)

theorem requestTakesLevel_of_idle (idle : (s.protocol.sides.get x).decided = .idle) :
    ((s.requestTakesLevel x .clear).requests.sides.get x).line = .none ∧
      ((s.requestTakesLevel x .clear).requests.sides.get x).settleTimer = none := by
  rw [show s.requestTakesLevel x .clear =
    s.changeLocal x { s.requests.sides.get x with line := .none, settleTimer := none } from if_pos idle]
  exact changeLocal_line (by decide)

/-- A SETTLE that the first pass takes does not come back (R74). -/
theorem Hearing.derive_of_lost {h : Hearing} {start : Pair LocalRequest}
    (loses : (start.get x).losesSettle (h.ring.isServed (h.derivePass start).served x) = true) :
    ((h.derive start).sides.get x).line = .none ∧ ((h.derive start).sides.get x).settleTimer = none := by
  have drops : (start.get x).drops (h.ring.isServed (h.derivePass start).served x) = true := by
    simp [LocalRequest.drops, loses]
  have goes : ((start.get .east).drops (h.ring.isServed (h.derivePass start).served .east) ||
      (start.get .west).drops (h.ring.isServed (h.derivePass start).served .west)) = true := by
    cases x <;> simp [drops]
  let next := Pair.each fun y => h.afterDrops y (start.get y) (h.ring.isServed (h.derivePass start).served y)
  have derive : h.derive start = h.settle 4 next := if_pos goes
  have lost : (next.get x).line = .none ∧ (next.get x).settleTimer = none := by
    rw [Pair.get_each, Hearing.afterDrops, if_pos drops, if_pos loses, if_pos loses]
    exact ⟨rfl, rfl⟩
  obtain ⟨line, timer⟩ := lost
  rw [derive]
  obtain ⟨same, still⟩ | ⟨settle, -⟩ := (Hearing.settle_drops (h := h) 4 next x).line
  · exact ⟨same.trans line, still.trans timer⟩
  · rw [line] at settle
    cases settle

end Expiries

section Settle

variable {s : State} {x : Side} {held : LocalRequest}

/-- The SETTLE of a side that falls stands where the side holds no operator part and its first pass serves the span (R74). -/
theorem changeLocal_settle (line : held.line = .settle) : let t := s.changeLocal x held
    let first := s.hearing.derivePass
      (s.requests.sides.set x { held with echo := s.hearing.echoAfter x (s.requests.sides.get x) held })
    let q := t.requests.sides.get x
    (held.operator = .none ∧ (∃ e ∈ first.served, e.span = s.geo.facing x) →
      q.line = .settle ∧ q.settleTimer = held.settleTimer ∧ q.effective = .settle ∧
        t.geo.isServed t.requests.served x = true) ∧
    (¬(held.operator = .none ∧ ∃ e ∈ first.served, e.span = s.geo.facing x) →
      q.line = .none ∧ q.settleTimer = none) := by
  intro t first q
  let start := s.requests.sides.set x { held with echo := s.hearing.echoAfter x (s.requests.sides.get x) held }
  have here : start.get x = { held with echo := s.hearing.echoAfter x (s.requests.sides.get x) held } :=
    Pair.get_set_same _ _ _
  have derived : t.requests = s.hearing.derive start := deriveFrom_requests s start
  have served : (∃ e ∈ first.served, e.span = s.geo.facing x) ↔ s.geo.isServed first.served x = true :=
    Ring.isServed_iff.symm
  have parts : q = (s.hearing.derive start).sides.get x := congrArg (fun u => u.sides.get x) derived
  have geo : t.geo = s.geo := (deriveFrom_works s start).geo
  rw [served]
  refine ⟨fun ⟨operator, stands⟩ => ?_, fun lost => ?_⟩
  · have effective : ∀ echo, LocalRequest.effective { held with echo := echo } = .settle := fun echo => by
      rw [LocalRequest.effective]
      dsimp only
      rw [line, operator]
      rfl
    have mem := Hearing.isServed_iff.mp (show s.hearing.ring.isServed (s.hearing.derivePass start).served x = true from stands)
    have firm : (start.get x).drops true = false := by
      rw [here]
      exact (LocalRequest.drops_eq_false_iff _ _).mpr ⟨fun _ => ⟨effective _, rfl⟩, fun _ => rfl⟩
    obtain ⟨kept, still⟩ := Hearing.derive_of_served (Hearing.mem_served mem).1 mem firm
    rw [parts, kept, here, geo, derived]
    exact ⟨line, rfl, effective _, still⟩
  · rw [parts]
    refine Hearing.derive_of_lost ?_
    rw [here]
    simp only [LocalRequest.losesSettle, line, Bool.and_eq_true, Bool.or_eq_true, beq_iff_eq, bne_iff_ne, Bool.not_eq_true',
      true_and]
    by_cases operator : held.operator = .none
    · exact .inr (Bool.eq_false_iff.mpr fun stands => lost ⟨operator, stands⟩)
    · refine .inl fun effective => operator ?_
      exact LocalRequest.operator_of_settle (l := { held with line := .settle, echo := _ }) rfl effective

end Settle

/-- Settles O19: an expiry moves the declared level, and the line part follows it as each level asks. -/
theorem monitorTimersExpire : Obligations.MonitorTimersExpire := by
  unfold Obligations.MonitorTimersExpire
  intro s x running sound m l reach
  have timed : m.timed := by
    have here := sound x
    rw [if_pos running] at here
    exact here.2
  have live : s.loader.load ≠ .noLoad := by
    rw [show s.loader.load = .loaded by simpa [State.running] using running]
    decide
  have dim : exec (.dimTimerExpiry x) s = .next (s.dimExpires x) := exec_of_live live (fun t => t.dimExpires x) rfl
  have dark : exec (.darkTimerExpiry x) s = .next (s.darkExpires x) := exec_of_live live (fun t => t.darkExpires x) rfl
  have soak : exec (.soakExpiry x) s = .next (s.soakExpires x) := exec_of_live live (fun t => t.soakExpires x) rfl
  refine ⟨⟨fun early => ?_, fun due => ⟨_, dim, dimExpires_only s x, ?_⟩⟩,
    ⟨fun early => ?_, fun due => ⟨_, dark, darkExpires_only s x, ?_⟩⟩,
    fun early => ?_, fun due => ⟨_, soak, soakExpires_only s x, ?_⟩⟩
  · rw [dim, State.dimExpires_early (due_false_of_not early)]
  · have due := (timerDue_iff _ _).mp due
    obtain ⟨-, clear⟩ := timed.1.mp (isSome_of_due due)
    have expires : s.dimExpires x = (s.setMonitor x { m with declared := .dim, dimTimer := none }).requestTakesLevel x .dim :=
      (if_pos due).trans (setMonitor_declare_of_move (by rw [clear]; exact nofun))
    rw [expires]
    exact ⟨requestTakesLevel_only _ x _ .monitors (by decide), requestTakesLevel_line (by decide)⟩
  · rw [dark, State.darkExpires_early (due_false_of_not early)]
  · have due := (timerDue_iff _ _).mp due
    obtain ⟨-, lower⟩ := timed.2.1.mp (isSome_of_due due)
    have expires : s.darkExpires x =
        (s.setMonitor x { m with declared := .dark, dimTimer := none, darkTimer := none }).requestTakesLevel x .dark :=
      (if_pos due).trans (setMonitor_declare_of_move (Ne.symm lower))
    rw [expires]
    exact ⟨requestTakesLevel_only _ x _ .monitors (by decide), requestTakesLevel_line (by decide)⟩
  · rw [soak, State.soakExpires_early (due_false_of_not early)]
  · have due := (timerDue_iff _ _).mp due
    have falls := timed.2.2.mp (isSome_of_due due)
    let u := s.setMonitor x { m with declared := m.raw, soakTimer := none }
    have expires : s.soakExpires x = u.requestTakesLevel x m.raw := by
      refine (if_pos due).trans (setMonitor_declare_of_move fun same => ?_)
      exact absurd (same ▸ falls) (lt_irrefl _)
    rw [expires]
    refine ⟨requestTakesLevel_only _ x _ .monitors (by decide), fun dim => ?_, fun clear idle => ?_, fun clear turns => ?_⟩
    · rw [dim]
      exact requestTakesLevel_line (by decide)
    · rw [clear]
      exact requestTakesLevel_of_idle idle
    · intro timer held falls rises echo first
      have takes : u.requestTakesLevel x m.raw = u.changeLocal x held := by
        rw [clear]
        exact if_neg turns
      rw [takes]
      exact changeLocal_settle (s := u) (held := held) rfl

end Sys2Proof.Machine
end

section
/-!
Proofs about the selector map (section 8.4): the record a channel carries over a span, the normal entries, and the drops.
-/

namespace Sys2Proof.Machine

/-! ### Local roles (R21) -/

/-- A route crosses the span a side faces exactly where it goes through the local node, or starts or ends there on that side. -/
theorem Circuit.sound.covers_facing_iff {r : Ring} {c : Circuit} (sound : r.sound) (h : c.sound r) (x : Side) :
    r.covers (r.circuitRoute c) (r.facing x) = true ↔ r.roleOf (r.circuitRoute c) = .through ∨
      r.roleOf (r.circuitRoute c) = .head ∧ x = c.direction.leaving ∨
      r.roleOf (r.circuitRoute c) = .tail ∧ x = c.direction.arriving := by
  obtain ⟨pa, pb, -, -, ha, hb, ne, route⟩ := h.ends
  have three : 3 ≤ r.size := sound.1
  have zero : 0 < r.size := by omega
  have last : r.size - 1 < r.size := by omega
  rw [route]
  cases c.direction with
  | east =>
    simp only [Ring.route, Ring.covers, Ring.roleOf, Ring.hopIndexOfSelf, Direction.leaving,
      Direction.arriving]
    cases x with
    | east =>
      simp only [Ring.facing, Ring.dist_eq ha hb, Ring.dist_eq ha zero]
      grind
    | west =>
      simp only [Ring.facing, Ring.dist_eq ha hb, Ring.dist_eq ha zero, Ring.dist_eq ha last]
      grind
  | west =>
    simp only [Ring.route, Ring.covers, Ring.roleOf, Ring.hopIndexOfSelf, Direction.leaving,
      Direction.arriving]
    cases x with
    | east =>
      simp only [Ring.facing, Ring.dist_eq hb ha, Ring.dist_eq zero ha, Ring.dist_eq hb zero]
      grind
    | west =>
      simp only [Ring.facing, Ring.dist_eq hb ha, Ring.dist_eq zero ha, Ring.dist_eq hb last]
      grind

/-! ### The record on a channel and a span -/

/-- Record c goes over the span side x faces, on channel k. -/
structure MapInput.Carries (i : MapInput) (x : Side) (k : Nat) (c : Circuit) : Prop where
  mem : c ∈ i.circuits
  channel : c.channel = k
  covers : i.ring.covers (i.ring.circuitRoute c) (i.ring.facing x) = true

section Records

variable {i : MapInput} {x : Side} {k : Nat} {c d : Circuit}

theorem MapInput.recordAt_eq_none_iff : i.recordAt x k = none ↔ ∀ c, ¬i.Carries x k c := by
  simp only [MapInput.recordAt, List.find?_eq_none, Bool.and_eq_true, beq_iff_eq]
  exact ⟨fun none c ⟨mem, channel, covers⟩ => none c mem ⟨channel, covers⟩,
    fun none c mem ⟨channel, covers⟩ => none c ⟨mem, channel, covers⟩⟩

theorem MapInput.carries_of_recordAt (found : i.recordAt x k = some c) : i.Carries x k c := by
  have holds := List.find?_some found
  simp only [Bool.and_eq_true, beq_iff_eq] at holds
  exact ⟨List.mem_of_find?_eq_some found, holds.1, holds.2⟩

variable (sound : i.ring.sound) (tables : tableSound i.ring i.circuits)
include sound tables

theorem MapInput.Carries.unique (first : i.Carries x k c) (second : i.Carries x k d) : c = d :=
  tables.eq_of_covers first.mem second.mem (first.channel.trans second.channel.symm)
    (Ring.facing_lt (le_trans (by decide) sound.1) x) first.covers second.covers

theorem MapInput.recordAt_eq_some (carries : i.Carries x k c) : i.recordAt x k = some c := by
  cases found : i.recordAt x k with
  | none => exact absurd carries (MapInput.recordAt_eq_none_iff.mp found c)
  | some d => rw [(carries_of_recordAt found).unique sound tables carries]

theorem MapInput.Carries.role (carries : i.Carries x k c) : i.localRole c = .through ∨
    i.localRole c = .head ∧ x = c.direction.leaving ∨ i.localRole c = .tail ∧ x = c.direction.arriving :=
  (Circuit.sound.covers_facing_iff sound (tables.2.1 c carries.mem) x).mp carries.covers

theorem MapInput.carries_of_role (mem : c ∈ i.circuits) (role : i.localRole c = .through ∨
    i.localRole c = .head ∧ x = c.direction.leaving ∨ i.localRole c = .tail ∧ x = c.direction.arriving) :
    i.Carries x c.channel c :=
  ⟨mem, rfl, (Circuit.sound.covers_facing_iff sound (tables.2.1 c mem) x).mpr role⟩

/-- The normal entry of a channel that a record goes over. -/
theorem MapInput.normalLine_of_carries (carries : i.Carries x k c) : i.normalLine x k =
    if i.givenUp c = true then .idle else if i.localRole c = .through then .pass else .addCircuit c.id := by
  unfold MapInput.normalLine
  rw [MapInput.recordAt_eq_some sound tables carries]
  dsimp only
  obtain role | ⟨role, -⟩ | ⟨role, -⟩ := carries.role sound tables <;> rw [role] <;> rfl

omit sound tables

theorem MapInput.normalLine_of_none (none : ∀ c, ¬i.Carries x k c) : i.normalLine x k = .idle := by
  rw [MapInput.normalLine, MapInput.recordAt_eq_none_iff.mpr none]

theorem MapInput.givenUp_iff : i.givenUp c = true ↔ c.cls = .extra ∧ i.action c = .preempted := by
  simp [MapInput.givenUp]

theorem MapInput.build_lines_length (i : MapInput) (out : Side) : (i.build.lines.get out).length = 80 := by
  change ((Pair.each fun out => (List.range 80).map (i.line out)).get out).length = 80
  rw [Pair.get_each]
  simp

theorem MapInput.build_lines (i : MapInput) (out : Side) (hk : k < 80) :
    (i.build.lines.get out)[k]? = some (i.line out k) := by
  change ((Pair.each fun out => (List.range 80).map (i.line out)).get out)[k]? = _
  rw [Pair.get_each, List.getElem?_map, List.getElem?_range hk]
  rfl

/-! ### Drops -/

theorem Drop.mem_foldr_insert {d : Drop} {l : List Drop} : d ∈ l.foldr Drop.insert [] ↔ d ∈ l := by
  induction l with
  | nil => rfl
  | cons e rest ih => rw [List.foldr_cons, Drop.mem_insert, ih, List.mem_cons]

theorem MapInput.mem_build_drops {d : Drop} : d ∈ i.build.drops ↔ ∃ c ∈ i.circuits, i.drop c = some d := by
  change d ∈ (i.circuits.filterMap i.drop).foldr Drop.insert [] ↔ _
  rw [Drop.mem_foldr_insert, List.mem_filterMap]

/-- A record has a drop entry exactly where it starts or ends at the local node, on its side there. -/
theorem MapInput.drop_eq_some_iff {d : Drop} : i.drop c = some d ↔ ∃ role side,
    (i.localRole c = .head ∧ side = c.direction.leaving ∨ i.localRole c = .tail ∧ side = c.direction.arriving) ∧
      routeSide c role = side ∧ d = { circuit := c.id, source := i.dropSource c role } := by
  unfold MapInput.drop
  cases role : i.localRole c with
  | head =>
    simp only [Option.some.injEq, true_and, reduceCtorEq, false_and, or_false]
    refine ⟨fun same => ⟨.head, _, rfl, rfl, same.symm⟩, ?_⟩
    rintro ⟨other, _, rfl, side, rfl⟩
    rw [MapInput.dropSource, MapInput.dropSource, side]
    rfl
  | tail =>
    simp only [Option.some.injEq, true_and, reduceCtorEq, false_and, false_or]
    refine ⟨fun same => ⟨.tail, _, rfl, rfl, same.symm⟩, ?_⟩
    rintro ⟨other, _, rfl, side, rfl⟩
    rw [MapInput.dropSource, MapInput.dropSource, side]
    rfl
  | through => simp
  | none => simp

end Records

end Sys2Proof.Machine
end

section
/-!
Proofs about the selector map by role (section 8.4): the normal construction of an IDLE, BARRED or PASSING node, and the map
of a switching node by Table 35.
-/

namespace Sys2Proof.Machine

section Lines

variable {i : MapInput} {x y : Side} {k : Nat} {c : Circuit}

theorem MapInput.line_of_passing (still : i.role.switches = false) (passes : i.role = .passing) (high : 40 ≤ k) :
    i.line x k = .pass := by
  rw [MapInput.line, still, if_neg (by decide), if_pos ⟨passes, by simpa [isProtection] using high⟩]

theorem MapInput.line_of_normal (still : i.role.switches = false) (normal : ¬(i.role = .passing ∧ 40 ≤ k)) :
    i.line x k = i.normalLine x k := by
  rw [MapInput.line, still, if_neg (by decide), if_neg (by simpa [isProtection] using normal)]

theorem Direction.arriving_eq (d : Direction) : d.arriving = d.leaving.opposite := by cases d <;> rfl

theorem MapInput.dropSource_of_normal {role : LocalRole} (still : i.role.switchesOn (routeSide c role) = false) :
    i.dropSource c role = if c.cls = .extra ∧ i.action c = .preempted then none else some (routeSide c role, c.channel) := by
  unfold MapInput.dropSource
  dsimp only
  rw [still, if_neg (by simp : ¬(false = true ∧ _))]
  simp only [MapInput.givenUp_iff]

end Lines

/-- Settles O40: with no side switching every line entry is a PASS of a PASSING node or the normal one, and every drop entry
follows its record's own side. -/
theorem normalMapByLocalRole : Obligations.NormalMapByLocalRole := by
  unfold Obligations.NormalMapByLocalRole
  intro i sound tables still r line passed
  have small {c : Circuit} (mem : c ∈ i.circuits) : c.channel < 80 := by
    obtain ⟨-, channel, -⟩ := tables.2.1 c mem
    omega
  have entry {out : Side} {c : Circuit} (mem : c ∈ i.circuits) (normal : ¬passed c.channel)
      (kept : ¬(c.cls = .extra ∧ i.action c = .preempted)) (carries : i.Carries out c.channel c) :
      line out c.channel = some (if i.localRole c = .through then .pass else .addCircuit c.id) := by
    refine (i.build_lines out (small mem)).trans (congrArg some ?_)
    rw [MapInput.line_of_normal still normal, MapInput.normalLine_of_carries sound tables carries,
      if_neg (MapInput.givenUp_iff.not.mpr kept)]
  refine ⟨i.build_lines_length, fun out channel hk passes => ?_, fun c mem normal kept =>
    ⟨fun through out => ?_, fun head => ?_, fun tail => ?_⟩, fun out channel hk normal idle => ?_, fun d => ?_⟩
  · exact (i.build_lines out hk).trans (congrArg some (MapInput.line_of_passing still passes.1 passes.2))
  · rw [entry mem normal kept (MapInput.carries_of_role sound tables mem (.inl through)), if_pos through]
  · rw [entry mem normal kept (MapInput.carries_of_role sound tables mem (.inr (.inl ⟨head, rfl⟩))),
      if_neg (by rw [head]; decide)]
  · rw [entry mem normal kept (MapInput.carries_of_role sound tables mem (.inr (.inr ⟨tail, rfl⟩))),
      if_neg (by rw [tail]; decide)]
  · refine (i.build_lines out hk).trans (congrArg some ?_)
    rw [MapInput.line_of_normal still normal]
    cases found : i.recordAt out channel with
    | none => exact MapInput.normalLine_of_none (MapInput.recordAt_eq_none_iff.mp found)
    | some c =>
      have carries := MapInput.carries_of_recordAt found
      rw [MapInput.normalLine_of_carries sound tables carries,
        if_pos (MapInput.givenUp_iff.mpr (idle c carries.mem carries.channel carries.covers))]
  · have off (x : Side) : i.role.switchesOn x = false := by
      simp only [Role.switches, Bool.or_eq_false_iff] at still
      cases x
      · exact still.1
      · exact still.2
    rw [MapInput.mem_build_drops]
    simp only [MapInput.drop_eq_some_iff]
    refine exists_congr fun c => and_congr_right fun mem => ⟨?_, ?_⟩
    · rintro ⟨role, side, at_, routed, rfl⟩
      rw [MapInput.dropSource_of_normal (off _), routed]
      exact ⟨side, at_, rfl⟩
    · rintro ⟨side, at_, rfl⟩
      obtain ⟨role, routed⟩ : ∃ role, routeSide c role = side := by
        obtain ⟨-, rfl⟩ | ⟨-, rfl⟩ := at_
        · exact ⟨.head, rfl⟩
        · exact ⟨.tail, rfl⟩
      refine ⟨role, side, at_, routed, ?_⟩
      rw [MapInput.dropSource_of_normal (off _), routed]

end Sys2Proof.Machine
end

section
/-!
Proofs about the selector map of a switching node (section 8.4, Table 35).
-/

namespace Sys2Proof.Machine

/-- A RESTORED action. -/
def Action.Restores (a : Action) : Prop := ∃ hops latency late, a = .restored hops latency late

/-- A SQUELCHED action. -/
def Action.Squelches (a : Action) : Prop := ∃ why, a = .squelched why

/-- An action that silences a channel: SQUELCHED or OUTSIDE. -/
def Action.Silences (a : Action) : Prop := a.Squelches ∨ a = .outside

section Partners

variable {m : MapStyle} {k q : Nat}

theorem MapStyle.behind_partner (hk : k < 40) : m.behind (m.partner k) = k := by
  cases m <;> simp only [MapStyle.behind, MapStyle.partner] <;> omega

theorem MapStyle.partner_lt (hk : k < 40) : 40 ≤ m.partner k ∧ m.partner k < 80 := by
  cases m <;> simp only [MapStyle.partner] <;> omega

end Partners

section Entries

variable {i : MapInput} {x y : Side} {k : Nat} {c : Circuit}

section Carried

variable (sound : i.ring.sound) (tables : tableSound i.ring i.circuits) (hk : k < 40) (carries : i.Carries x k c)
include sound tables hk carries

theorem MapInput.bridgeEntry_of_restored (restores : (i.action c).Restores) :
    i.bridgeEntry x (i.ring.style.partner k) = some (if i.localRole c = .through then .turn k else .addCircuit c.id) := by
  obtain ⟨hops, latency, late, action⟩ := restores
  simp only [MapInput.bridgeEntry, MapStyle.behind_partner hk, MapInput.recordAt_eq_some sound tables carries, action]
  obtain role | ⟨role, -⟩ | ⟨role, -⟩ := carries.role sound tables <;> rw [role] <;> rfl

theorem MapInput.bridgeEntry_of_silenced (silences : (i.action c).Silences) :
    i.bridgeEntry x (i.ring.style.partner k) = some .squelch := by
  obtain ⟨why, action⟩ | action := silences <;>
    simp only [MapInput.bridgeEntry, MapStyle.behind_partner hk, MapInput.recordAt_eq_some sound tables carries, action]

omit hk in
theorem MapInput.switchEntry_of_restored (restores : (i.action c).Restores) (through : i.localRole c = .through)
    (switched : i.snapshot.decided.get x = .switched) :
    i.switchEntry x k = some (.turn (i.ring.style.partner k)) := by
  obtain ⟨hops, latency, late, action⟩ := restores
  simp only [MapInput.switchEntry, MapInput.recordAt_eq_some sound tables carries, action, through, if_pos switched]

omit hk in
theorem MapInput.switchEntry_of_silenced (silences : (i.action c).Silences) (through : i.localRole c = .through) :
    i.switchEntry x k = some .squelch := by
  obtain ⟨why, action⟩ | action := silences <;>
    simp only [MapInput.switchEntry, MapInput.recordAt_eq_some sound tables carries, action, through]

end Carried

theorem MapInput.bridgeEntry_eq_none (hk : k < 40)
    (none : ∀ c, i.Carries x k c → ¬(i.action c).Restores ∧ ¬(i.action c).Silences) :
    i.bridgeEntry x (i.ring.style.partner k) = Option.none := by
  unfold MapInput.bridgeEntry
  dsimp only
  rw [MapStyle.behind_partner hk]
  cases found : i.recordAt x k with
  | none => rfl
  | some c =>
    obtain ⟨restores, silences⟩ := none c (MapInput.carries_of_recordAt found)
    dsimp only
    split
    next action _ => exact absurd ⟨_, _, _, action⟩ restores
    next action _ => exact absurd ⟨_, _, _, action⟩ restores
    next action _ => exact absurd ⟨_, _, _, action⟩ restores
    next action => exact absurd (.inl ⟨_, action⟩) silences
    next action => exact absurd (.inr action) silences
    next => rfl

theorem MapInput.switchEntry_eq_none (none : ∀ c, i.Carries x k c → i.localRole c = .through →
      ¬(i.action c).Silences ∧ ¬((i.action c).Restores ∧ i.snapshot.decided.get x = .switched)) :
    i.switchEntry x k = Option.none := by
  unfold MapInput.switchEntry
  cases found : i.recordAt x k with
  | none => rfl
  | some c =>
    have through := none c (MapInput.carries_of_recordAt found)
    dsimp only
    split
    next hops latency late action role =>
      exact if_neg fun switched => (through role).2 ⟨⟨_, _, _, action⟩, switched⟩
    next why action role => exact absurd (.inl ⟨_, action⟩) (through role).1
    next action role => exact absurd (.inr action) (through role).1
    next => rfl

theorem MapInput.turns_iff : i.turns x = true ↔ i.role.switchesOn x = true ∧ i.snapshot.decided.get x ≠ .idle := by
  simp [MapInput.turns]

variable (switches : i.role.switches = true)
include switches

/-- A protection channel's entry comes from the bridge of the other side, IDLE without one (R142). -/
theorem MapInput.line_partner (hk : k < 40) : i.line y (i.ring.style.partner k) =
    (if i.turns y.opposite = true then i.bridgeEntry y.opposite (i.ring.style.partner k) else none).getD .idle := by
  have high : isProtection (i.ring.style.partner k) = true := by
    simpa [isProtection] using (MapStyle.partner_lt hk).1
  rw [MapInput.line, if_pos switches, MapInput.switchingLine]
  simp only [high, if_true]

/-- A working channel's entry comes from the switch of the other side, the normal one without one (R142). -/
theorem MapInput.line_working (hk : k < 40) : i.line y k =
    (if i.turns y.opposite = true then i.switchEntry y.opposite k else none).getD (i.normalLine y k) := by
  have low : isProtection k = false := by simpa [isProtection] using hk
  rw [MapInput.line, if_pos switches, MapInput.switchingLine]
  simp only [low, Bool.false_eq_true, if_false]

/-- On the side a record ends at, no record goes through on its channel, so the working entry is the normal one. -/
theorem MapInput.line_of_end (sound : i.ring.sound) (tables : tableSound i.ring i.circuits) (hk : k < 40)
    (carries : i.Carries x k c) (ends : ¬i.localRole c = .through) : i.line x k = i.normalLine x k := by
  rw [MapInput.line_working switches hk, MapInput.switchEntry_eq_none fun d on through => ?_]
  · split_ifs <;> rfl
  · obtain rfl := on.channel
    have here := (MapInput.carries_of_role (x := x) sound tables on.mem (.inl through)).unique sound tables carries
    exact absurd (here ▸ through) ends

end Entries

/-! ### Drops of a switching node -/

section Drops

variable {i : MapInput} {c : Circuit} {role : LocalRole}

theorem MapInput.dropSource_of_givenUp (gone : c.cls = .extra ∧ i.action c = .preempted) : i.dropSource c role = none :=
  if_pos (MapInput.givenUp_iff.mpr gone)

section Changed

variable (low : c.cls ≠ .extra) (changed : i.role.switchesOn (routeSide c role) = true ∧
  i.snapshot.decided.get (routeSide c role) = .switched ∧ c.channel < 40)
include low changed

theorem MapInput.dropSource_of_restored (restores : (i.action c).Restores) :
    i.dropSource c role = some ((routeSide c role).opposite, i.ring.style.partner c.channel) := by
  obtain ⟨hops, latency, late, action⟩ := restores
  obtain ⟨on, switched, working⟩ := changed
  unfold MapInput.dropSource
  dsimp only
  rw [if_neg (MapInput.givenUp_iff.not.mpr fun gone => low gone.1),
    if_pos ⟨on, switched, by simpa [isProtection] using working⟩, action]

theorem MapInput.dropSource_of_squelched (squelches : (i.action c).Squelches) : i.dropSource c role = none := by
  obtain ⟨why, action⟩ := squelches
  obtain ⟨on, switched, working⟩ := changed
  unfold MapInput.dropSource
  dsimp only
  rw [if_neg (MapInput.givenUp_iff.not.mpr fun gone => low gone.1),
    if_pos ⟨on, switched, by simpa [isProtection] using working⟩, action]

end Changed

theorem MapInput.dropSource_of_kept (kept : ¬(c.cls = .extra ∧ i.action c = .preempted))
    (same : ¬((i.role.switchesOn (routeSide c role) = true ∧ i.snapshot.decided.get (routeSide c role) = .switched ∧
      c.channel < 40) ∧ ((i.action c).Restores ∨ (i.action c).Squelches))) :
    i.dropSource c role = some (routeSide c role, c.channel) := by
  unfold MapInput.dropSource
  dsimp only
  rw [if_neg (MapInput.givenUp_iff.not.mpr kept)]
  split_ifs with changed
  · have changed' : i.role.switchesOn (routeSide c role) = true ∧
        i.snapshot.decided.get (routeSide c role) = .switched ∧ c.channel < 40 := by
      simpa [isProtection] using changed
    cases action : i.action c with
    | restored hops latency late => exact absurd ⟨changed', .inl ⟨_, _, _, action⟩⟩ same
    | squelched why => exact absurd ⟨changed', .inr ⟨_, action⟩⟩ same
    | outside => rfl
    | carried => rfl
    | down => rfl
    | preempted => rfl
  · rfl

end Drops

/-- Settles O41: Table 35 row by row, the normal entries elsewhere, and the drops of the switched side. -/
theorem switchingMapByTable35 : Obligations.SwitchingMapByTable35 := by
  unfold Obligations.SwitchingMapByTable35
  intro i sound tables switches r line ends restored squelched silenced turns switched carries normal
  have low {c : Circuit} (mem : c ∈ i.circuits) (hk : c.channel < 40) : c.cls ≠ .extra := fun extra => by
    obtain ⟨-, -, -, -, -, classes, -⟩ := tables.2.1 c mem
    have high := classes.mp extra
    omega
  have carried {x : Side} {k : Nat} {c : Circuit} : carries x k c ↔ i.Carries x k c :=
    ⟨fun ⟨mem, channel, covers⟩ => ⟨mem, channel, covers⟩, fun ⟨mem, channel, covers⟩ => ⟨mem, channel, covers⟩⟩
  have isNormal {out : Side} {k : Nat} (hk : k < 40) (same : i.line out k = i.normalLine out k) : normal out k := by
    have entry : line out k = some (i.normalLine out k) := (i.build_lines out (by omega)).trans (congrArg some same)
    refine ⟨fun c on => ?_, fun none => ?_⟩
    · have on := carried.mp on
      rw [entry, MapInput.normalLine_of_carries sound tables on,
        if_neg (MapInput.givenUp_iff.not.mpr fun gone => low on.mem (on.channel ▸ hk) gone.1)]
    · rw [entry, MapInput.normalLine_of_none fun c on => none c (carried.mpr on)]
  have partnered {y : Side} {k : Nat} (hk : k < 40) {e : Source} (entry : i.line y (r.style.partner k) = e) :
      line y (r.style.partner k) = some e :=
    (i.build_lines y (MapStyle.partner_lt hk).2).trans (congrArg some entry)
  have apart {c : Circuit} (at_ : ends c) : ¬i.localRole c = .through := by
    obtain head | tail := at_
    · rw [head]
      decide
    · rw [tail]
      decide
  have rows (y : Side) (k : Nat) (hk : k < 40) (turn : turns y.opposite) (c : Circuit) (on : carries y.opposite k c) :
      (restored c → i.localRole c = .through →
        line y (r.style.partner k) = some (.turn k) ∧
          (switched y.opposite → line y k = some (.turn (r.style.partner k)))) ∧
      (restored c → ends c → line y (r.style.partner k) = some (.addCircuit c.id) ∧
        line y.opposite k = some (.addCircuit c.id)) ∧
      (silenced c → i.localRole c = .through → line y (r.style.partner k) = some .squelch ∧ line y k = some .squelch) ∧
      (squelched c → ends c → line y (r.style.partner k) = some .squelch) := by
    have on := carried.mp on
    have turn : i.turns y.opposite = true := MapInput.turns_iff.mpr turn
    have bridge {e : Source} (entry : i.bridgeEntry y.opposite (r.style.partner k) = some e) :
        line y (r.style.partner k) = some e :=
      partnered hk (by rw [MapInput.line_partner switches hk, if_pos turn, entry]; rfl)
    have switch {e : Source} (entry : i.switchEntry y.opposite k = some e) : line y k = some e :=
      (i.build_lines y (by omega)).trans
        (congrArg some (by rw [MapInput.line_working switches hk, if_pos turn, entry]; rfl))
    refine ⟨fun restores through => ⟨bridge ?_, fun switched => switch ?_⟩, fun restores ends => ⟨bridge ?_, ?_⟩,
      fun silences through => ⟨bridge ?_, switch ?_⟩, fun squelches _ => bridge ?_⟩
    · rw [MapInput.bridgeEntry_of_restored sound tables hk on restores, if_pos through]
    · exact MapInput.switchEntry_of_restored sound tables on restores through switched
    · rw [MapInput.bridgeEntry_of_restored sound tables hk on restores, if_neg (apart ends)]
    · have same : i.line y.opposite k = i.normalLine y.opposite k :=
        MapInput.line_of_end switches sound tables hk on (apart ends)
      obtain ⟨own, -⟩ := isNormal hk same
      rw [own c (carried.mpr on), if_neg (apart ends)]
    · exact MapInput.bridgeEntry_of_silenced sound tables hk on silences
    · exact MapInput.switchEntry_of_silenced sound tables on silences through
    · exact MapInput.bridgeEntry_of_silenced sound tables hk on (.inl squelches)
  refine ⟨i.build_lines_length, fun y k hk => ⟨fun turn c on => rows y k hk turn c on, fun none => ?_, fun none => ?_⟩,
    fun d => ?_, fun role east west c mem hk through silences out => ?_⟩
  · refine partnered hk ?_
    rw [MapInput.line_partner switches hk]
    by_cases turn : i.turns y.opposite = true
    · rw [if_pos turn, MapInput.bridgeEntry_eq_none hk fun c on => ?_]
      · rfl
      · exact ⟨fun restores => none ⟨MapInput.turns_iff.mp turn, c, carried.mpr on, .inl restores⟩,
          fun silences => none ⟨MapInput.turns_iff.mp turn, c, carried.mpr on, .inr silences⟩⟩
    · rw [if_neg turn]
      rfl
  · refine isNormal hk ?_
    rw [MapInput.line_working switches hk]
    by_cases turn : i.turns y.opposite = true
    · rw [if_pos turn, MapInput.switchEntry_eq_none fun c on through => ?_]
      · rfl
      · exact ⟨fun silences => none ⟨MapInput.turns_iff.mp turn, c, carried.mpr on, through, .inl silences⟩,
          fun restores => none ⟨MapInput.turns_iff.mp turn, c, carried.mpr on, through, .inr restores⟩⟩
    · rw [if_neg turn]
      rfl
  · rw [MapInput.mem_build_drops]
    simp only [MapInput.drop_eq_some_iff]
    refine exists_congr fun c => and_congr_right fun mem => ⟨?_, ?_⟩
    · rintro ⟨role, side, at_, rfl, rfl⟩
      refine ⟨_, at_, rfl, fun gone => MapInput.dropSource_of_givenUp gone, fun changed restores => ?_,
        fun changed squelches => ?_, fun kept same => MapInput.dropSource_of_kept kept same⟩
      · exact MapInput.dropSource_of_restored (low mem changed.2.2) changed restores
      · exact MapInput.dropSource_of_squelched (low mem changed.2.2) changed squelches
    · rintro ⟨side, at_, circuit, gone, restores, squelches, kept⟩
      obtain ⟨role, rfl⟩ : ∃ role, routeSide c role = side := by
        obtain ⟨-, rfl⟩ | ⟨-, rfl⟩ := at_
        · exact ⟨.head, rfl⟩
        · exact ⟨.tail, rfl⟩
      refine ⟨role, _, at_, rfl, ?_⟩
      have source : d.source = i.dropSource c role := by
        by_cases givenUp : c.cls = .extra ∧ i.action c = .preempted
        · rw [gone givenUp, MapInput.dropSource_of_givenUp givenUp]
        by_cases same : (i.role.switchesOn (routeSide c role) = true ∧ switched (routeSide c role) ∧ c.channel < 40) ∧
            (restored c ∨ squelched c)
        · obtain ⟨changed, restored | squelched⟩ := same
          · rw [restores changed restored, MapInput.dropSource_of_restored (low mem changed.2.2) changed restored]
          · rw [squelches changed squelched, MapInput.dropSource_of_squelched (low mem changed.2.2) changed squelched]
        · rw [kept givenUp same, MapInput.dropSource_of_kept givenUp same]
      rw [← circuit, ← source]
  · have on : carries out.opposite c.channel c := carried.mpr (MapInput.carries_of_role sound tables mem (.inl through))
    have turn : turns out.opposite := by
      cases out
      · exact west
      · exact east
    obtain ⟨-, -, squelch, -⟩ := rows out c.channel hk turn c on
    exact (squelch silences through).symm

end Sys2Proof.Machine
end

section
/-!
Proofs about the islands of a plan (section 7.2): the arcs between switched spans, and the island a position lies in.
-/

namespace Sys2Proof.Machine

/-! ### The list of arcs (R114) -/

section Lists

variable {r : Ring} {i j : Island} {l : List Island}

theorem Island.insert_perm : (i.insert l).Perm (i :: l) := by
  induction l with
  | nil => exact .refl _
  | cons j rest ih =>
    unfold Island.insert
    split_ifs
    · exact .refl _
    · exact (ih.cons j).trans (.swap i j rest)

theorem Island.foldr_insert_perm : (l.foldr Island.insert []).Perm l := by
  induction l with
  | nil => exact .refl _
  | cons i rest ih => exact Island.insert_perm.trans (ih.cons i)

theorem Island.insert_sorted (sorted : l.Pairwise fun a b => a.westEnd ≤ b.westEnd) :
    (i.insert l).Pairwise fun a b => a.westEnd ≤ b.westEnd := by
  induction l with
  | nil => exact List.pairwise_singleton _ _
  | cons j rest ih =>
    obtain ⟨first, sorted'⟩ := List.pairwise_cons.mp sorted
    unfold Island.insert
    split_ifs with before
    · exact List.pairwise_cons.mpr ⟨List.forall_mem_cons.mpr ⟨before, fun k mem => before.trans (first k mem)⟩, sorted⟩
    · refine List.pairwise_cons.mpr ⟨fun k mem => ?_, ih sorted'⟩
      obtain rfl | mem := List.mem_cons.mp (Island.insert_perm.subset mem)
      · omega
      · exact first k mem

theorem Island.foldr_insert_sorted : (l.foldr Island.insert []).Pairwise fun a b => a.westEnd ≤ b.westEnd := by
  induction l with
  | nil => exact .nil
  | cons i rest ih => exact Island.insert_sorted ih

theorem Ring.arcs_getElem? (first : Nat) (spans : List Nat) (j : Nat) : (r.arcs first spans)[j]? =
    spans[j]?.map fun s => .arc (r.next s) ((spans[j + 1]?).getD first) := by
  induction spans generalizing j with
  | nil => rfl
  | cons s rest ih =>
    cases rest with
    | nil => cases j <;> rfl
    | cons t rest =>
      cases j with
      | zero => rfl
      | succ j => exact ih j

theorem Ring.arcs_westEnds (first : Nat) (spans : List Nat) : (r.arcs first spans).map Island.westEnd = spans.map r.next := by
  refine List.ext_getElem? fun j => ?_
  rw [List.getElem?_map, List.getElem?_map, Ring.arcs_getElem?, Option.map_map]
  rfl

theorem Ring.islands_perm {spans : List Nat} (nonempty : spans ≠ []) :
    (r.islands spans).Perm (r.arcs (spans.headD 0) spans) := by
  cases spans with
  | nil => exact absurd rfl nonempty
  | cons first rest => exact Island.foldr_insert_perm

theorem Ring.islands_sorted {spans : List Nat} (nonempty : spans ≠ []) :
    (r.islands spans).Pairwise fun a b => a.westEnd ≤ b.westEnd := by
  cases spans with
  | nil => exact absurd rfl nonempty
  | cons first rest => exact Island.foldr_insert_sorted

/-- The islands are the arcs from each switched span to the next one round the ring. -/
theorem Ring.mem_islands_iff {spans : List Nat} (nonempty : spans ≠ []) : i ∈ r.islands spans ↔
    ∃ j s, spans[j]? = some s ∧ ∃ t, spans[(j + 1) % spans.length]? = some t ∧ i = .arc (r.next s) t := by
  have pos : 0 < spans.length := List.length_pos_iff.mpr nonempty
  have next {j : Nat} (hj : j < spans.length) :
      spans[(j + 1) % spans.length]? = some ((spans[j + 1]?).getD (spans.headD 0)) := by
    by_cases last : j + 1 < spans.length
    · rw [Nat.mod_eq_of_lt last, List.getElem?_eq_getElem last]
      rfl
    · rw [show j + 1 = spans.length by omega, Nat.mod_self, List.getElem?_eq_none le_rfl]
      cases spans with
      | nil => exact absurd rfl nonempty
      | cons first rest => rfl
  rw [(Ring.islands_perm nonempty).mem_iff, List.mem_iff_getElem?]
  refine exists_congr fun j => ?_
  rw [Ring.arcs_getElem?]
  cases here : spans[j]? with
  | none => simp
  | some s =>
    have hj : j < spans.length := by
      by_contra out
      rw [List.getElem?_eq_none (by omega)] at here
      cases here
    rw [next hj]
    simp [eq_comm]

end Lists

/-! ### The island of a position (R115) -/

/-- Switched spans of a ring, in ascending order. -/
structure Ring.Cuts (r : Ring) (spans : List Nat) : Prop where
  ascending : spans.Pairwise (· < ·)
  within : ∀ s ∈ spans, s < r.size

/-- Span t is the first of the spans met eastward from position p. -/
structure Ring.Nearest (r : Ring) (spans : List Nat) (p t : Nat) : Prop where
  mem : t ∈ spans
  first : ∀ u ∈ spans, r.dist p t ≤ r.dist p u

section Positions

variable {r : Ring} {spans : List Nat} {p t u : Nat}

theorem Ring.dist_inj {a b c : Nat} (ha : a < r.size) (hb : b < r.size) (hc : c < r.size) (same : r.dist a b = r.dist a c) :
    b = c := by
  rw [Ring.dist_eq ha hb, Ring.dist_eq ha hc] at same
  split_ifs at same <;> omega

theorem Ring.Nearest.unique (cuts : r.Cuts spans) (hp : p < r.size) (first : r.Nearest spans p t)
    (second : r.Nearest spans p u) : t = u :=
  Ring.dist_inj hp (cuts.within t first.mem) (cuts.within u second.mem)
    (le_antisymm (first.first u second.mem) (second.first t first.mem))

theorem Ring.nearest_exists (nonempty : spans ≠ []) (p : Nat) : ∃ t, r.Nearest spans p t := by
  obtain ⟨t, mem, first⟩ := Finset.exists_min_image spans.toFinset (r.dist p) (List.toFinset_nonempty_iff spans |>.mpr nonempty)
  exact ⟨t, List.mem_toFinset.mp mem, fun u mem => first u (List.mem_toFinset.mpr mem)⟩

/-- From the position after a switched span, the next one round the ring is met first. -/
theorem Ring.Cuts.nearest_next (cuts : r.Cuts spans) {j s : Nat} (here : spans[j]? = some s)
    (next : spans[(j + 1) % spans.length]? = some t) : r.Nearest spans (r.next s) t := by
  obtain ⟨hj, rfl⟩ := List.getElem?_eq_some_iff.mp here
  obtain ⟨hn, rfl⟩ := List.getElem?_eq_some_iff.mp next
  have order {a b : Nat} (ha : a < spans.length) (hb : b < spans.length) (le : a ≤ b) : spans[a] ≤ spans[b] := by
    obtain rfl | less := Nat.eq_or_lt_of_le le
    · exact le_rfl
    · exact (List.pairwise_iff_getElem.mp cuts.ascending a b ha hb less).le
  have inside {a : Nat} (ha : a < spans.length) : spans[a] < r.size := cuts.within _ (List.getElem_mem ha)
  refine ⟨List.getElem_mem hn, fun u mem => ?_⟩
  obtain ⟨a, ha, rfl⟩ := List.getElem_of_mem mem
  have after : r.next spans[j] < r.size := Nat.mod_lt _ (by have := inside hj; omega)
  rw [Ring.dist_eq after (inside hn), Ring.dist_eq after (inside ha), Ring.next_eq (inside hj)]
  have u := inside ha
  have s := inside hj
  by_cases last : j + 1 < spans.length
  · simp only [Nat.mod_eq_of_lt last] at *
    have step := List.pairwise_iff_getElem.mp cuts.ascending j (j + 1) hj last (by omega)
    obtain low | high := Nat.lt_or_ge j a
    · have := order last ha low
      grind
    · have := order ha hj high
      grind
  · have wraps : (j + 1) % spans.length = 0 := by rw [show j + 1 = spans.length by omega, Nat.mod_self]
    simp only [wraps] at *
    have low := order (by omega) ha (Nat.zero_le a)
    have high := order ha hj (by omega)
    grind

/-- An island holds a position exactly where its last span is the first met from there. -/
theorem Ring.Cuts.holds_iff (cuts : r.Cuts spans) {j s : Nat} (here : spans[j]? = some s)
    (next : spans[(j + 1) % spans.length]? = some t) (hp : p < r.size) :
    r.holds (.arc (r.next s) t) p = true ↔ r.Nearest spans p t := by
  have nearest := cuts.nearest_next here next
  have hs := cuts.within s (List.mem_of_getElem? here)
  have ht := cuts.within t nearest.mem
  have after : r.next s < r.size := Nat.mod_lt _ (by omega)
  change decide (r.dist (r.next s) p ≤ r.dist (r.next s) t) = true ↔ _
  rw [decide_eq_true_eq]
  constructor
  · intro inside
    refine ⟨nearest.mem, fun u mem => ?_⟩
    have hu := cuts.within u mem
    have first := nearest.first u mem
    rw [Ring.dist_eq hp ht, Ring.dist_eq hp hu]
    rw [Ring.dist_eq after hp, Ring.dist_eq after ht] at inside
    rw [Ring.dist_eq after ht, Ring.dist_eq after hu] at first
    grind
  · intro closest
    have first := closest.first s (List.mem_of_getElem? here)
    rw [Ring.dist_eq hp ht, Ring.dist_eq hp hs] at first
    rw [Ring.dist_eq after hp, Ring.dist_eq after ht, Ring.next_eq hs]
    grind

/-- Two islands with one east end are one. -/
theorem Ring.Cuts.index_unique (cuts : r.Cuts spans) {j k : Nat} (hj : j < spans.length) (hk : k < spans.length)
    (first : spans[(j + 1) % spans.length]? = some t) (second : spans[(k + 1) % spans.length]? = some t) : j = k := by
  have distinct : spans.Nodup := cuts.ascending.imp Nat.ne_of_lt
  have same := (List.getElem?_inj (Nat.mod_lt _ (by omega)) distinct).mp (first.trans second.symm)
  by_cases last : j + 1 < spans.length <;> by_cases last' : k + 1 < spans.length
  · rw [Nat.mod_eq_of_lt last, Nat.mod_eq_of_lt last'] at same
    omega
  · rw [Nat.mod_eq_of_lt last, show k + 1 = spans.length by omega, Nat.mod_self] at same
    omega
  · rw [Nat.mod_eq_of_lt last', show j + 1 = spans.length by omega, Nat.mod_self] at same
    omega
  · omega

/-- Every span is the east end of an island. -/
theorem Ring.exists_previous (mem : t ∈ spans) :
    ∃ j s, spans[j]? = some s ∧ spans[(j + 1) % spans.length]? = some t := by
  obtain ⟨a, ha, rfl⟩ := List.getElem_of_mem mem
  cases a with
  | zero =>
    refine ⟨spans.length - 1, spans[spans.length - 1], List.getElem?_eq_getElem _, ?_⟩
    rw [show spans.length - 1 + 1 = spans.length by omega, Nat.mod_self]
    exact List.getElem?_eq_getElem ha
  | succ a =>
    refine ⟨a, spans[a], List.getElem?_eq_getElem _, ?_⟩
    rw [Nat.mod_eq_of_lt ha]
    exact List.getElem?_eq_getElem ha

/-- The one island that holds a position ends with the span that is met first from there. -/
theorem Ring.Cuts.islandOf_eq (cuts : r.Cuts spans) (hp : p < r.size) {j s : Nat} (here : spans[j]? = some s)
    (next : spans[(j + 1) % spans.length]? = some t) (nearest : r.Nearest spans p t) :
    r.islandOf (r.islands spans) p = .arc (r.next s) t := by
  have nonempty : spans ≠ [] := List.ne_nil_of_mem nearest.mem
  have mem : Island.arc (r.next s) t ∈ r.islands spans := (Ring.mem_islands_iff nonempty).mpr ⟨j, s, here, t, next, rfl⟩
  unfold Ring.islandOf
  cases found : (r.islands spans).find? fun i => r.holds i p with
  | none => exact absurd ((cuts.holds_iff here next hp).mpr nearest) (List.find?_eq_none.mp found _ mem)
  | some i =>
    obtain ⟨k, s', here', t', next', rfl⟩ := (Ring.mem_islands_iff nonempty).mp (List.mem_of_find?_eq_some found)
    obtain rfl := ((cuts.holds_iff here' next' hp).mp (by simpa using List.find?_some found)).unique cuts hp nearest
    obtain rfl := cuts.index_unique (List.getElem?_eq_some_iff.mp here').1 (List.getElem?_eq_some_iff.mp here).1 next' next
    obtain rfl := Option.some.inj (here.symm.trans here')
    rfl

/-- Each position lies in exactly one island, which is its island (R115). -/
theorem Ring.Cuts.islandOf_unique (cuts : r.Cuts spans) (nonempty : spans ≠ []) (hp : p < r.size) :
    r.islandOf (r.islands spans) p ∈ r.islands spans ∧
      ∀ i ∈ r.islands spans, r.holds i p = true ↔ i = r.islandOf (r.islands spans) p := by
  obtain ⟨t, nearest⟩ := Ring.nearest_exists (r := r) nonempty p
  obtain ⟨j, s, here, next⟩ := Ring.exists_previous nearest.mem
  rw [cuts.islandOf_eq hp here next nearest]
  refine ⟨(Ring.mem_islands_iff nonempty).mpr ⟨j, s, here, t, next, rfl⟩, fun i mem => ⟨fun holds => ?_, ?_⟩⟩
  · obtain ⟨k, s', here', t', next', rfl⟩ := (Ring.mem_islands_iff nonempty).mp mem
    have nearest' := (cuts.holds_iff here' next' hp).mp holds
    exact (cuts.islandOf_eq hp here' next' nearest').symm.trans (cuts.islandOf_eq hp here next nearest)
  · rintro rfl
    exact (cuts.holds_iff here next hp).mpr nearest

/-- The west ends of the islands are different positions. -/
theorem Ring.Cuts.islands_ordered (cuts : r.Cuts spans) (nonempty : spans ≠ []) :
    (r.islands spans).Pairwise fun a b => a.westEnd < b.westEnd := by
  have distinct : ((r.islands spans).map Island.westEnd).Nodup := by
    rw [((Ring.islands_perm nonempty).map _).nodup_iff, Ring.arcs_westEnds]
    refine List.Nodup.map_on (fun a ha b hb same => ?_) (cuts.ascending.imp Nat.ne_of_lt)
    have ha := cuts.within a ha
    have hb := cuts.within b hb
    rw [Ring.next_eq ha, Ring.next_eq hb] at same
    split_ifs at same <;> omega
  exact ((Ring.islands_sorted nonempty).and (List.pairwise_map.mp distinct)).imp fun ⟨le, ne⟩ => Nat.lt_of_le_of_ne le ne

end Positions

theorem switchedSpans_of_bar {served : List ServedEntry} (bar : hasBar served = true) : switchedSpans served = [] :=
  if_pos bar

/-- The spans a served set switches cut the ring. -/
theorem Ring.cuts_switchedSpans {r : Ring} {served : List ServedEntry} (within : ∀ e ∈ served, e.span < r.size)
    (ascending : served.Pairwise fun a b => a.span < b.span) : r.Cuts (switchedSpans served) := by
  unfold switchedSpans
  split_ifs
  · exact ⟨.nil, fun s mem => nomatch mem⟩
  · refine ⟨List.pairwise_map.mpr ascending, fun s mem => ?_⟩
    obtain ⟨e, served, rfl⟩ := List.mem_map.mp mem
    exact within e served

/-- Settles O36: the islands are the arcs between switched spans in ascending order, and the first switched span met eastward
from a position tells its island. -/
theorem islandsPartitionTheRing : Obligations.IslandsPartitionTheRing := by
  unfold Obligations.IslandsPartitionTheRing
  intro r snap circuits _ within ascending plan barred k
  have cuts : r.Cuts plan.switched := Ring.cuts_switchedSpans within ascending
  have islands : plan.islands = r.islands plan.switched := rfl
  have bar : barred ↔ hasBar snap.served = true := hasBar_iff.symm
  refine ⟨fun bars => switchedSpans_of_bar (bar.mp bars), fun free => ?_, fun none => ?_, fun nonempty => ⟨?_, ?_, ?_⟩,
    fun p hp => ?_, rfl, ?_, rfl, rfl⟩
  · exact switchedSpans_of_free (by simpa using bar.not.mp free)
  · rw [islands, none]
    rfl
  · rw [islands, (Ring.islands_perm nonempty).length_eq, ← List.length_map Island.westEnd, Ring.arcs_westEnds, List.length_map]
  · exact fun i => Ring.mem_islands_iff nonempty
  · exact cuts.islands_ordered nonempty
  · rw [islands]
    by_cases none : plan.switched = []
    · rw [none]
      have whole : r.islandOf (r.islands []) p = .whole := rfl
      rw [whole]
      refine ⟨List.mem_singleton.mpr rfl, fun i mem => ?_⟩
      obtain rfl := List.mem_singleton.mp mem
      exact iff_of_true rfl rfl
    · exact cuts.islandOf_unique none hp
  · change viewOf snap.served = .full ↔ _
    rw [bar, viewOf]
    split_ifs with full
    · simpa using full
    · simpa using full

end Sys2Proof.Machine
end

section
/-!
Proofs about restored circuits (sections 7.3 to 7.5): a restored route lies in the local island at both ends and crosses the
span at its east end, so a channel restores one circuit; and the figures of its route.
-/

namespace Sys2Proof.Machine

section Restored

variable {r : Ring} {snap : Snapshot} {c : Circuit}

/-- A restored circuit meets a switched span, and both its ends lie in the local island. -/
structure Ring.RestoredHere (r : Ring) (snap : Snapshot) (c : Circuit) : Prop where
  free : hasBar snap.served = false
  met : ∃ e ∈ snap.served, r.covers (r.circuitRoute c) e.span = true
  source : r.islandUnder snap.served (r.circuitRoute c).source = r.islandUnder snap.served 0
  destination : r.islandUnder snap.served (r.circuitRoute c).destination = r.islandUnder snap.served 0

theorem Ring.restoredHere_of_restored {hops latency : Nat} {late : Bool}
    (restored : r.actionOf snap c = .restored hops latency late) : r.RestoredHere snap c := by
  obtain ⟨cls, same⟩ := Ring.prot_of_restored restored
  have working : c.cls ≠ .extra := by
    rw [cls]
    decide
  have free : hasBar snap.served = false := by
    by_contra bar
    exact Ring.carriedOrDown_ne_restored ((Ring.actionOf_of_bar (by simpa using bar)).symm.trans restored)
  have met : ∃ e ∈ snap.served, r.covers (r.circuitRoute c) e.span = true := by
    by_contra unmet
    cases (Ring.actionOf_of_unmet free working unmet).symm.trans restored
  have home : r.islandUnder snap.served (r.circuitRoute c).source = r.islandUnder snap.served 0 := by
    by_contra out
    cases (Ring.actionOf_of_outside free working met ⟨out, same ▸ out⟩).symm.trans restored
  exact ⟨free, met, home, same.symm.trans home⟩

theorem Circuit.sound.route_start (sound : c.sound r) : (r.circuitRoute c).start < r.size ∧
    ((r.circuitRoute c).start = (r.circuitRoute c).source ∨ (r.circuitRoute c).start = (r.circuitRoute c).destination) := by
  obtain ⟨pa, pb, -, -, ha, hb, -, route⟩ := sound.ends
  rw [route]
  cases c.direction with
  | east => exact ⟨ha, .inl rfl⟩
  | west => exact ⟨hb, .inr rfl⟩

/-- Positions of one island meet the same switched span first. -/
theorem Ring.Cuts.nearest_of_island {spans : List Nat} {p q t : Nat} (cuts : r.Cuts spans) (hp : p < r.size) (hq : q < r.size)
    (same : r.islandOf (r.islands spans) q = r.islandOf (r.islands spans) p) (nearest : r.Nearest spans p t) :
    r.Nearest spans q t := by
  obtain ⟨u, nearest'⟩ := Ring.nearest_exists (r := r) (List.ne_nil_of_mem nearest.mem) q
  obtain ⟨j, s, here, next⟩ := Ring.exists_previous nearest.mem
  obtain ⟨j', s', here', next'⟩ := Ring.exists_previous nearest'.mem
  rw [cuts.islandOf_eq hp here next nearest, cuts.islandOf_eq hq here' next' nearest'] at same
  obtain ⟨-, rfl⟩ := Island.arc.inj same
  exact nearest'

/-- A restored circuit's route crosses the span at the east end of the local island. -/
theorem Ring.RestoredHere.covers (here : r.RestoredHere snap c) (sound : c.sound r) (cuts : r.Cuts (switchedSpans snap.served))
    {t : Nat} (nearest : r.Nearest (switchedSpans snap.served) 0 t) : r.covers (r.circuitRoute c) t = true := by
  obtain ⟨hp, ends⟩ := sound.route_start
  have home : r.islandUnder snap.served (r.circuitRoute c).start = r.islandUnder snap.served 0 := by
    obtain same | same := ends
    · rw [same]
      exact here.source
    · rw [same]
      exact here.destination
  have first := cuts.nearest_of_island (by omega) hp home nearest
  obtain ⟨e, served, covers⟩ := here.met
  have mem : e.span ∈ switchedSpans snap.served := by
    rw [switchedSpans_of_free here.free]
    exact List.mem_map_of_mem served
  unfold Ring.covers at *
  rw [decide_eq_true_eq] at *
  exact lt_of_le_of_lt (first.first _ mem) covers

end Restored

/-- Settles O39: two restored routes of one channel would both cross the span at the local island's east end. -/
theorem oneRestoredPerChannel : Obligations.OneRestoredPerChannel := by
  unfold Obligations.OneRestoredPerChannel
  intro r snap circuits _ tables within ascending c hc d hd channel
  rintro ⟨hops, latency, late, first⟩ ⟨hops', latency', late', second⟩
  have cuts := Ring.cuts_switchedSpans within ascending
  have first := Ring.restoredHere_of_restored first
  have second := Ring.restoredHere_of_restored second
  obtain ⟨e, served, -⟩ := first.met
  have nonempty : switchedSpans snap.served ≠ [] := by
    rw [switchedSpans_of_free first.free]
    exact List.ne_nil_of_mem (List.mem_map_of_mem served)
  obtain ⟨t, nearest⟩ := Ring.nearest_exists (r := r) nonempty 0
  exact tables.eq_of_covers hc hd channel (cuts.within t nearest.mem) (first.covers (tables.2.1 c hc) cuts nearest)
    (second.covers (tables.2.1 d hd) cuts nearest)

end Sys2Proof.Machine
end

section
/-!
Proofs about the figures of a restored route (sections 7.3 to 7.5): hop count, delays and latency.
-/

namespace Sys2Proof.Machine

section Arcs

variable {r : Ring} {w e a b : Nat}

/-- Of two positions of an arc, one from which the arc's end comes before the other is the later of the two. -/
theorem Ring.arc_order (hw : w < r.size) (he : e < r.size) (ha : a < r.size) (hb : b < r.size)
    (first : r.dist w a ≤ r.dist w e) (second : r.dist w b ≤ r.dist w e) (past : r.dist a e < r.dist a b) :
    r.dist w b < r.dist w a ∧ r.dist a b + r.dist w a = r.size + r.dist w b := by
  rw [Ring.dist_eq hw ha, Ring.dist_eq hw he] at first
  rw [Ring.dist_eq hw hb, Ring.dist_eq hw he] at second
  rw [Ring.dist_eq ha he, Ring.dist_eq ha hb] at past
  rw [Ring.dist_eq ha hb, Ring.dist_eq hw ha, Ring.dist_eq hw hb]
  grind

theorem Ring.dist_rest (hw : w < r.size) (he : e < r.size) (ha : a < r.size) (first : r.dist w a ≤ r.dist w e) :
    r.dist a e + r.dist w a = r.dist w e := by
  rw [Ring.dist_eq hw ha, Ring.dist_eq hw he] at *
  rw [Ring.dist_eq ha he]
  grind

theorem Ring.dist_eq_mod (ha : a < r.size) : r.dist a b = (b + r.size - a) % r.size := by
  rw [Ring.dist, Nat.mod_eq_of_lt ha, Nat.add_sub_assoc ha.le]

variable {delays : List Nat} {first hops : Nat}

theorem Ring.arcDelay_east : r.arcDelay delays .east w e first hops =
    ((List.range hops).map fun i => delays.getD ((w + (first + i)) % r.size) 0).sum := by
  simp only [Ring.arcDelay, Ring.delaySum, Ring.spansFrom, List.map_map, Function.comp_def, Ring.delayOf, Nat.mod_add_mod,
    Nat.add_assoc]

/-- Westward the spans of an arc are crossed from the east end on. -/
theorem Ring.arcDelay_west (inside : first + hops < r.size) : r.arcDelay delays .west w e first hops =
    ((List.range hops).map fun i => delays.getD ((e + r.size - (first + i + 1)) % r.size) 0).sum := by
  simp only [Ring.arcDelay, Ring.delaySum, Ring.spansFrom, List.map_map, Function.comp_def, Ring.delayOf]
  change ∑ i ∈ Finset.range hops, _ = ∑ i ∈ Finset.range hops, _
  rw [← Finset.sum_range_reflect]
  refine Finset.sum_congr rfl fun i mem => congrArg (delays.getD · 0) ?_
  have hi := Finset.mem_range.mp mem
  rw [Ring.dist_eq_mod inside, Nat.mod_add_mod]
  congr 1
  omega

theorem Ring.arcIndex_east (hw : w < r.size) : r.arcIndex .east w e a = (a + r.size - w) % r.size := Ring.dist_eq_mod hw

theorem Ring.arcIndex_west (ha : a < r.size) : r.arcIndex .west w e a = (e + r.size - a) % r.size := Ring.dist_eq_mod ha

end Arcs

/-! ### The restored route on its island -/

section Islands

variable {r : Ring} {snap : Snapshot} {c : Circuit} {west east : Nat}

/-- What R117 and R125 turn on: both ends lie in the island from `west` to `east`, the destination before the source, and the
route itself goes the other way round. -/
structure Ring.OnIsland (r : Ring) (c : Circuit) (west east : Nat) : Prop where
  west_lt : west < r.size
  east_lt : east < r.size
  source_lt : (r.circuitRoute c).source < r.size
  destination_lt : (r.circuitRoute c).destination < r.size
  order : r.arcIndex c.direction west east (r.circuitRoute c).destination <
    r.arcIndex c.direction west east (r.circuitRoute c).source
  inside : r.arcIndex c.direction west east (r.circuitRoute c).source ≤ r.dist west east
  around : (r.circuitRoute c).hops + r.arcIndex c.direction west east (r.circuitRoute c).source =
    r.size + r.arcIndex c.direction west east (r.circuitRoute c).destination

theorem Circuit.sound.route_ends (sound : c.sound r) :
    (r.circuitRoute c).source < r.size ∧ (r.circuitRoute c).destination < r.size := by
  obtain ⟨pa, pb, -, -, ha, hb, -, route⟩ := sound.ends
  obtain ⟨source, destination⟩ := r.route_ends pa pb c.direction
  rw [route, source, destination]
  exact ⟨ha, hb⟩

/-- An island is an arc between two switched spans, ending with the one its positions meet first. -/
theorem Ring.Cuts.arc_of_island {spans : List Nat} {p : Nat} (cuts : r.Cuts spans) (nonempty : spans ≠ []) (hp : p < r.size)
    (island : r.islandOf (r.islands spans) p = .arc west east) : west < r.size ∧ r.Nearest spans p east ∧
      (∀ q < r.size, r.islandOf (r.islands spans) q = .arc west east → r.dist west q ≤ r.dist west east) ∧
      (spans.length = 1 → r.dist west east + 1 = r.size) := by
  obtain ⟨t, nearest⟩ := Ring.nearest_exists (r := r) nonempty p
  obtain ⟨j, s, here, next⟩ := Ring.exists_previous nearest.mem
  obtain ⟨rfl, rfl⟩ := Island.arc.inj ((cuts.islandOf_eq hp here next nearest).symm.trans island)
  have hs := cuts.within s (List.mem_of_getElem? here)
  have after : r.next s < r.size := Nat.mod_lt _ (by omega)
  refine ⟨after, nearest, fun q hq same => ?_, fun one => ?_⟩
  · have nearest' := cuts.nearest_of_island hp hq (same.trans island.symm) nearest
    simpa [Ring.holds] using (cuts.holds_iff here next hq).mpr nearest'
  · have only : s = t := by
      rw [one, Nat.mod_one] at next
      have hj := (List.getElem?_eq_some_iff.mp here).1
      rw [show j = 0 by omega] at here
      exact Option.some.inj (here.symm.trans next)
    rw [← only, Ring.dist_eq after hs, Ring.next_eq hs]
    grind

theorem Ring.RestoredHere.onIsland (here : r.RestoredHere snap c) (sound : c.sound r)
    (cuts : r.Cuts (switchedSpans snap.served)) (island : r.islandUnder snap.served (r.circuitRoute c).source = .arc west east) :
    r.OnIsland c west east ∧ ((switchedSpans snap.served).length = 1 → r.dist west east + 1 = r.size) := by
  obtain ⟨ha, hb⟩ := sound.route_ends
  obtain ⟨e, served, -⟩ := here.met
  have nonempty : switchedSpans snap.served ≠ [] := by
    rw [switchedSpans_of_free here.free]
    exact List.ne_nil_of_mem (List.mem_map_of_mem served)
  have zero : 0 < r.size := by omega
  have home : r.islandUnder snap.served 0 = .arc west east := here.source.symm.trans island
  obtain ⟨hw, nearest, inside, single⟩ := cuts.arc_of_island nonempty zero home
  have he := cuts.within east nearest.mem
  have first := inside _ ha island
  have second := inside _ hb (here.destination.trans home)
  have past : r.dist (r.circuitRoute c).start east < (r.circuitRoute c).hops := by
    simpa [Ring.covers] using here.covers sound cuts nearest
  refine ⟨?_, single⟩
  have route : r.circuitRoute c = r.route (r.circuitRoute c).source (r.circuitRoute c).destination c.direction := by
    obtain ⟨pa, pb, -, -, -, -, -, route⟩ := sound.ends
    obtain ⟨source, destination⟩ := r.route_ends pa pb c.direction
    rw [route, source, destination]
  cases dir : c.direction with
  | east =>
    rw [dir] at route
    have hops : _ = r.dist _ _ := congrArg Route.hops route
    rw [show _ = _ from congrArg Route.start route, hops] at past
    obtain ⟨order, around⟩ := Ring.arc_order hw he ha hb first second past
    exact ⟨hw, he, ha, hb, by rw [dir]; exact order, by rw [dir]; exact first, by rw [dir, hops]; exact around⟩
  | west =>
    rw [dir] at route
    have hops : _ = r.dist _ _ := congrArg Route.hops route
    rw [show _ = _ from congrArg Route.start route, hops] at past
    obtain ⟨order, around⟩ := Ring.arc_order hw he hb ha second first past
    have source := Ring.dist_rest hw he ha first
    have destination := Ring.dist_rest hw he hb second
    refine ⟨hw, he, ha, hb, ?_, ?_, ?_⟩
    · rw [dir]
      change r.dist _ east < r.dist _ east
      omega
    · rw [dir]
      change r.dist _ east ≤ _
      omega
    · rw [dir, hops]
      change _ + r.dist _ east = _ + r.dist _ east
      omega

end Islands

/-- The action of a protected circuit whose ends lie in one island with the local node (case 7 of Table 29). -/
theorem Ring.actionOf_of_together {r : Ring} {snap : Snapshot} {c : Circuit} {west east : Nat}
    (free : hasBar snap.served = false) (cls : c.cls = .prot)
    (met : ∃ e ∈ snap.served, r.covers (r.circuitRoute c) e.span = true)
    (source : r.islandUnder snap.served (r.circuitRoute c).source = .arc west east)
    (destination : r.islandUnder snap.served (r.circuitRoute c).destination = .arc west east)
    (home : r.islandUnder snap.served 0 = .arc west east) :
    r.actionOf snap c = restoredAction c (r.restoredRoute snap (r.circuitRoute c) west east) := by
  rw [← Ring.meets_switchedSpans_iff free] at met
  unfold Ring.islandUnder at source destination home
  unfold Ring.actionOf
  dsimp only
  rw [if_neg (by simp [free]), if_neg (by simp [cls]), if_neg (by simp [met]), source, destination, home,
    if_neg (by simp), if_neg (by simp [cls])]
  exact if_pos rfl

/-- Settles O38: the two ends lie in one arc, the destination before the source, so the restored route goes back to the arc's
end, round over the switched part, and on to the destination. -/
theorem restoredRouteFigures : Obligations.RestoredRouteFigures := by
  unfold Obligations.RestoredRouteFigures
  intro r snap c west east sound circuit within ascending noBar cls route island met source destination home N m index position
    spanAfter delays pa pb h1 h2 H latency action
  have free : hasBar snap.served = false := by
    rw [← Bool.not_eq_true, hasBar_iff]
    push Not
    exact noBar
  have cuts := Ring.cuts_switchedSpans within ascending
  have here : r.RestoredHere snap c := ⟨free, met, source.trans home.symm, destination.trans home.symm⟩
  obtain ⟨on, single⟩ := here.onIsland circuit cuts source
  have dir : (r.circuitRoute c).direction = c.direction := by
    obtain ⟨qa, qb, -, -, -, -, -, path⟩ := circuit.ends
    rw [path]
    cases c.direction <;> rfl
  have m_eq : m = r.dist west east + 1 := by
    rw [Ring.dist_eq_mod on.west_lt]
  have index_eq {p : Nat} (hp : p < r.size) : r.arcIndex c.direction west east p = index p := by
    cases way : c.direction with
    | east =>
      rw [Ring.arcIndex_east on.west_lt]
      exact (if_pos way).symm
    | west =>
      rw [Ring.arcIndex_west hp]
      exact (if_neg (by simp [way])).symm
  have delays_eq {first hops : Nat} (inside : first + hops < r.size) :
      r.arcDelay snap.delays c.direction west east first hops = delays first hops := by
    cases way : c.direction with
    | east =>
      rw [Ring.arcDelay_east]
      simp only [delays, spanAfter, position, way, if_true]
      rfl
    | west =>
      rw [Ring.arcDelay_west inside]
      simp only [delays, spanAfter, position, way, reduceCtorEq, if_false]
      rfl
  have source_eq : r.arcIndex c.direction west east route.source = pa := index_eq on.source_lt
  have destination_eq : r.arcIndex c.direction west east route.destination = pb := index_eq on.destination_lt
  obtain ⟨order, inside, around⟩ : pb < pa ∧ pa ≤ r.dist west east ∧ route.hops + pa = r.size + pb :=
    ⟨destination_eq ▸ source_eq ▸ on.order, source_eq ▸ on.inside, destination_eq ▸ source_eq ▸ on.around⟩
  have short : r.dist west east < r.size := Ring.dist_lt on.west_lt
  have figures : r.restoredRoute snap route west east = { hops := H, latency := latency } := by
    unfold Ring.restoredRoute
    dsimp only
    rw [show route.direction = c.direction from dir, source_eq, destination_eq, ← m_eq, delays_eq (by omega),
      delays_eq (by omega), delays_eq (by omega)]
    rfl
  have taken : action = restoredAction c { hops := H, latency := latency } :=
    (Ring.actionOf_of_together free cls met source destination home).trans (congrArg _ figures)
  have spans : (switchedSpans snap.served).length = snap.served.length := by
    rw [switchedSpans_of_free free, List.length_map]
  refine ⟨order, by omega, by omega, by omega, fun one => ?_, fun within => ?_, fun some late policy => ?_,
    fun some late policy => ?_⟩
  · have whole := single (spans.trans one)
    change m - 1 - pa + (m - 1) + pb = route.hops + r.size - 2
    omega
  · exact taken.trans (if_pos within)
  · rw [taken, restoredAction, if_neg (by simp only [not_or]; omega), policy]
  · rw [taken, restoredAction, if_neg (by simp only [not_or]; omega), policy]

end Sys2Proof.Machine
end
